-- ==== Sys2Proof/Word.lean ====
section
/-! DEFINITION. The two word types of the block: bytes (u8) and 16-bit words (u16), 00_scope.md R8. -/

namespace Sys2Proof

/-- A byte (u8) of 00_scope.md R8: a register of 8 bits, a memory byte, an operand byte. -/
abbrev Byte := BitVec 8

/-- A word (u16) of 00_scope.md R8: the PC and every address (00_scope.md R6). -/
abbrev Word := BitVec 16

/-- A 4-bit envelope or waveform field (00_scope.md R6). -/
abbrev Nibble := BitVec 4

end Sys2Proof
end

