-- ==== Sys2Proof/Syntax.lean ====
section
/-! DEFINITION. The instructions: one constructor for each of the 193 bound slots, in the order of
spec/opcode_table.json (30_encoding.md R75). A constructor is named by its mnemonic and addressing mode;
`n` is the operand byte, `off` a branch displacement byte, `w` the word operand `h:l` (R71, R72). -/

namespace Sys2Proof

/-- One constructor per row of spec/opcode_table.json. -/
inductive Instr where
  | brk
  | oraIndx (n : Byte)
  | sloIndx (n : Byte)
  | oraZp (n : Byte)
  | aslZp (n : Byte)
  | sloZp (n : Byte)
  | php
  | oraImm (n : Byte)
  | aslAcc
  | oraAbs (w : Word)
  | aslAbs (w : Word)
  | sloAbs (w : Word)
  | bpl (off : Byte)
  | oraIndy (n : Byte)
  | sloIndy (n : Byte)
  | oraZpx (n : Byte)
  | aslZpx (n : Byte)
  | sloZpx (n : Byte)
  | clc
  | oraAbsy (w : Word)
  | sloAbsy (w : Word)
  | oraAbsx (w : Word)
  | aslAbsx (w : Word)
  | sloAbsx (w : Word)
  | jsr (w : Word)
  | andIndx (n : Byte)
  | rlaIndx (n : Byte)
  | bitZp (n : Byte)
  | andZp (n : Byte)
  | rolZp (n : Byte)
  | rlaZp (n : Byte)
  | plp
  | andImm (n : Byte)
  | rolAcc
  | bitAbs (w : Word)
  | andAbs (w : Word)
  | rolAbs (w : Word)
  | rlaAbs (w : Word)
  | bmi (off : Byte)
  | andIndy (n : Byte)
  | rlaIndy (n : Byte)
  | andZpx (n : Byte)
  | rolZpx (n : Byte)
  | rlaZpx (n : Byte)
  | sec
  | andAbsy (w : Word)
  | rlaAbsy (w : Word)
  | andAbsx (w : Word)
  | rolAbsx (w : Word)
  | rlaAbsx (w : Word)
  | rti
  | eorIndx (n : Byte)
  | sreIndx (n : Byte)
  | eorZp (n : Byte)
  | lsrZp (n : Byte)
  | sreZp (n : Byte)
  | pha
  | eorImm (n : Byte)
  | lsrAcc
  | jmpAbs (w : Word)
  | eorAbs (w : Word)
  | lsrAbs (w : Word)
  | sreAbs (w : Word)
  | bvc (off : Byte)
  | eorIndy (n : Byte)
  | sreIndy (n : Byte)
  | eorZpx (n : Byte)
  | lsrZpx (n : Byte)
  | sreZpx (n : Byte)
  | cli
  | eorAbsy (w : Word)
  | sreAbsy (w : Word)
  | eorAbsx (w : Word)
  | lsrAbsx (w : Word)
  | sreAbsx (w : Word)
  | rts
  | adcIndx (n : Byte)
  | rraIndx (n : Byte)
  | adcZp (n : Byte)
  | rorZp (n : Byte)
  | rraZp (n : Byte)
  | pla
  | adcImm (n : Byte)
  | rorAcc
  | jmpInd (w : Word)
  | adcAbs (w : Word)
  | rorAbs (w : Word)
  | rraAbs (w : Word)
  | bvs (off : Byte)
  | adcIndy (n : Byte)
  | rraIndy (n : Byte)
  | adcZpx (n : Byte)
  | rorZpx (n : Byte)
  | rraZpx (n : Byte)
  | sei
  | adcAbsy (w : Word)
  | rraAbsy (w : Word)
  | adcAbsx (w : Word)
  | rorAbsx (w : Word)
  | rraAbsx (w : Word)
  | staIndx (n : Byte)
  | styZp (n : Byte)
  | staZp (n : Byte)
  | stxZp (n : Byte)
  | dey
  | txa
  | styAbs (w : Word)
  | staAbs (w : Word)
  | stxAbs (w : Word)
  | bcc (off : Byte)
  | staIndy (n : Byte)
  | styZpx (n : Byte)
  | staZpx (n : Byte)
  | stxZpy (n : Byte)
  | tya
  | staAbsy (w : Word)
  | txs
  | staAbsx (w : Word)
  | ldyImm (n : Byte)
  | ldaIndx (n : Byte)
  | ldxImm (n : Byte)
  | ldyZp (n : Byte)
  | ldaZp (n : Byte)
  | ldxZp (n : Byte)
  | tay
  | ldaImm (n : Byte)
  | tax
  | ldyAbs (w : Word)
  | ldaAbs (w : Word)
  | ldxAbs (w : Word)
  | bcs (off : Byte)
  | ldaIndy (n : Byte)
  | ldyZpx (n : Byte)
  | ldaZpx (n : Byte)
  | ldxZpy (n : Byte)
  | clv
  | ldaAbsy (w : Word)
  | tsx
  | ldyAbsx (w : Word)
  | ldaAbsx (w : Word)
  | ldxAbsy (w : Word)
  | cpyImm (n : Byte)
  | cmpIndx (n : Byte)
  | dcpIndx (n : Byte)
  | cpyZp (n : Byte)
  | cmpZp (n : Byte)
  | decZp (n : Byte)
  | dcpZp (n : Byte)
  | iny
  | cmpImm (n : Byte)
  | dex
  | cpyAbs (w : Word)
  | cmpAbs (w : Word)
  | decAbs (w : Word)
  | dcpAbs (w : Word)
  | bne (off : Byte)
  | cmpIndy (n : Byte)
  | dcpIndy (n : Byte)
  | cmpZpx (n : Byte)
  | decZpx (n : Byte)
  | dcpZpx (n : Byte)
  | cld
  | cmpAbsy (w : Word)
  | dcpAbsy (w : Word)
  | cmpAbsx (w : Word)
  | decAbsx (w : Word)
  | dcpAbsx (w : Word)
  | cpxImm (n : Byte)
  | sbcIndx (n : Byte)
  | iscIndx (n : Byte)
  | cpxZp (n : Byte)
  | sbcZp (n : Byte)
  | incZp (n : Byte)
  | iscZp (n : Byte)
  | inx
  | sbcImm (n : Byte)
  | nop
  | cpxAbs (w : Word)
  | sbcAbs (w : Word)
  | incAbs (w : Word)
  | iscAbs (w : Word)
  | beq (off : Byte)
  | sbcIndy (n : Byte)
  | iscIndy (n : Byte)
  | sbcZpx (n : Byte)
  | incZpx (n : Byte)
  | iscZpx (n : Byte)
  | sed
  | sbcAbsy (w : Word)
  | iscAbsy (w : Word)
  | sbcAbsx (w : Word)
  | incAbsx (w : Word)
  | iscAbsx (w : Word)
  deriving DecidableEq, Repr

end Sys2Proof
end

