-- ==== Sys2Proof/Config.lean ====
section
/-! DEFINITION. The parameters of 00_scope.md R7, fixed for the machine, and the types they need.
The two OPEN parameters, `P_LOAD_BASE` and `P_FRAMES`, have no value here: they are arguments of
`load` and `run` (Sys2Proof/Machine/Driver.lean; notes/assumptions/6.md). -/

namespace Sys2Proof

/-- The two region kinds of the block (20_memory.md R54). -/
inductive RegionKind where
  /-- The SID register sink: a write is a poke, a read is $00. -/
  | sid
  /-- Random-access memory. -/
  | ram
  deriving DecidableEq, Repr

/-- One attached region: a name and an inclusive address range (10_state.md R34, 20_memory.md R51).
Its read and write operations are those of its kind. -/
structure Region where
  name  : String
  kind  : RegionKind
  start : Nat
  stop  : Nat
  deriving DecidableEq, Repr

/-- What dispatching an unset slot does (`P_ILLEGAL_POLICY`, 60_exceptions.md R271). -/
inductive IllegalPolicy where
  | fail
  | nop1
  deriving DecidableEq, Repr

namespace Config

/-- `P_CLOCK_HZ`. -/
def clockHz : Nat := 985248
/-- `P_FPS`. -/
def fps : Nat := 50
/-- `P_CYCLES_PER_FRAME` = floor(`P_CLOCK_HZ` / `P_FPS`). -/
def cyclesPerFrame : Nat := clockHz / fps
/-- `P_STACK_BASE`. -/
def stackBase : Word := 0x0100#16
/-- `P_SID_BASE`. -/
def sidBase : Nat := 0xD400
/-- `P_MEMORY_MAP`, in attach order (20_memory.md R55). -/
def memoryMap : List Region :=
  [⟨"sid", .sid, sidBase, sidBase + 24⟩, ⟨"ram", .ram, 0x0000, 0xFFFF⟩]
/-- `P_ILLEGAL_POLICY`. -/
def illegalPolicy : IllegalPolicy := .fail
/-- `P_JMP_IND_WRAP`. -/
def jmpIndWrap : Bool := true
/-- `P_RAM_INIT`: what a RAM byte that nothing has written reads as. -/
def ramInit : Byte := 0x00#8
/-- `P_RET_ADDR`. -/
def retAddr : Word := 0x0000#16
/-- `P_SONG`. -/
def song : Byte := 0x00#8

end Config

end Sys2Proof
end

