-- ==== Sys2Proof/WellFormed.lean ====
section
/-! DEFINITION. Well-formedness of what is given to the machine: instructions, regions, images. -/

namespace Sys2Proof

/-- Every term of `Instr` is well-formed: the opcode byte alone selects the instruction, operands are
a whole byte or a whole word whose widths the types carry, and no operand value is reserved
(30_encoding.md R70, R72, R78). -/
def Instr.wf (_ : Instr) : Bool := true

/-- `start <= end` of 20_memory.md R51. -/
def Region.ordered (r : Region) : Bool := r.start ≤ r.stop

/-- `end <= $FFFF` of 20_memory.md R51. -/
def Region.inSpace (r : Region) : Bool := r.stop ≤ 0xFFFF

/-- What 20_memory.md R51 asks of a region that is attached. -/
def Region.wf (r : Region) : Bool := r.ordered && r.inSpace

/-- The image fits: `base + length(bytes) <= $10000` (60_exceptions.md R274). -/
def imageFits (length base : Nat) : Bool := base + length ≤ 0x10000

end Sys2Proof
end

