-- ==== Sys2Proof/Decode.lean ====
section
/-! DEFINITION. The dispatch table (10_state.md R33, 30_encoding.md R75, R76), the decoder made from it, and the
encoder. Byte order helpers stand here too: every 16-bit quantity is low byte first (20_memory.md R56). -/

namespace Sys2Proof

/-- `lo(w) = w[7:0]` (00_scope.md R8). -/
def lo (w : Word) : Byte := w.setWidth 8

/-- `hi(w) = w[15:8]` (00_scope.md R8). -/
def hi (w : Word) : Byte := (w >>> 8).setWidth 8

/-- `h:l`, the word with high byte `h` and low byte `l` (00_scope.md R8, 30_encoding.md R71). -/
def wordOf (h l : Byte) : Word := h ++ l

/-- The addressing modes of 40_addressing.md R92 to R104. -/
inductive Mode where
  | imp | acc | imm | zp | zpx | zpy | abs | absx | absy | ind | indx | indy | rel
  deriving DecidableEq, Repr

/-- What a slot binds its opcode to, by its operand byte count 0, 1 or 2 (30_encoding.md R71). -/
inductive SlotForm where
  | op (i : Instr)
  | opByte (make : Byte → Instr)
  | opWord (make : Word → Instr)

/-- The record of a bound slot (10_state.md R33, 30_encoding.md R74, R75). -/
structure Slot where
  mnemonic   : String
  mode       : Mode
  baseCycles : Nat
  pagePenalty : Bool
  form       : SlotForm

/-- The slot's operand byte count (30_encoding.md R71). -/
def Slot.operandBytes (t : Slot) : Nat :=
  match t.form with
  | .op _ => 0
  | .opByte _ => 1
  | .opWord _ => 2

/-- The reversed-operand-byte-order flag, set exactly for the 3-byte instructions and read by no rule of
the machine (30_encoding.md R75, 60_exceptions.md R284). -/
def Slot.reversedOperandByteOrder (t : Slot) : Bool := t.operandBytes == 2

/-- A bound slot without operand bytes. -/
def slot0 (m : String) (mode : Mode) (cycles : Nat) (i : Instr) : Option Slot :=
  some ⟨m, mode, cycles, false, .op i⟩

/-- A bound slot with one operand byte, without the page-cross penalty. -/
def slot1 (m : String) (mode : Mode) (cycles : Nat) (make : Byte → Instr) : Option Slot :=
  some ⟨m, mode, cycles, false, .opByte make⟩

/-- A bound slot with one operand byte and the page-cross penalty. -/
def slot1p (m : String) (mode : Mode) (cycles : Nat) (make : Byte → Instr) : Option Slot :=
  some ⟨m, mode, cycles, true, .opByte make⟩

/-- A bound slot with two operand bytes, without the page-cross penalty. -/
def slot2 (m : String) (mode : Mode) (cycles : Nat) (make : Word → Instr) : Option Slot :=
  some ⟨m, mode, cycles, false, .opWord make⟩

/-- A bound slot with two operand bytes and the page-cross penalty. -/
def slot2p (m : String) (mode : Mode) (cycles : Nat) (make : Word → Instr) : Option Slot :=
  some ⟨m, mode, cycles, true, .opWord make⟩

/-- Opcodes $00 to $0F (30_encoding.md, the opcode map and section 4). -/
def dispatchRow0 : List (Option Slot) :=
  [ slot0 "BRK" .imp 7 .brk, slot1 "ORA" .indx 6 .oraIndx, none, slot1 "SLO" .indx 8 .sloIndx, none,
    slot1 "ORA" .zp 3 .oraZp, slot1 "ASL" .zp 5 .aslZp, slot1 "SLO" .zp 5 .sloZp, slot0 "PHP" .imp 3 .php,
    slot1 "ORA" .imm 2 .oraImm, slot0 "ASL" .acc 2 .aslAcc, none, none, slot2 "ORA" .abs 4 .oraAbs,
    slot2 "ASL" .abs 6 .aslAbs, slot2 "SLO" .abs 6 .sloAbs ]

/-- Opcodes $10 to $1F (30_encoding.md, the opcode map and section 4). -/
def dispatchRow1 : List (Option Slot) :=
  [ slot1 "BPL" .rel 2 .bpl, slot1p "ORA" .indy 5 .oraIndy, none, slot1 "SLO" .indy 8 .sloIndy, none,
    slot1 "ORA" .zpx 4 .oraZpx, slot1 "ASL" .zpx 6 .aslZpx, slot1 "SLO" .zpx 6 .sloZpx,
    slot0 "CLC" .imp 2 .clc, slot2p "ORA" .absy 4 .oraAbsy, none, slot2 "SLO" .absy 7 .sloAbsy, none,
    slot2p "ORA" .absx 4 .oraAbsx, slot2 "ASL" .absx 7 .aslAbsx, slot2 "SLO" .absx 7 .sloAbsx ]

/-- Opcodes $20 to $2F (30_encoding.md, the opcode map and section 4). -/
def dispatchRow2 : List (Option Slot) :=
  [ slot2 "JSR" .abs 6 .jsr, slot1 "AND" .indx 6 .andIndx, none, slot1 "RLA" .indx 8 .rlaIndx,
    slot1 "BIT" .zp 3 .bitZp, slot1 "AND" .zp 3 .andZp, slot1 "ROL" .zp 5 .rolZp, slot1 "RLA" .zp 5 .rlaZp,
    slot0 "PLP" .imp 4 .plp, slot1 "AND" .imm 2 .andImm, slot0 "ROL" .acc 2 .rolAcc, none,
    slot2 "BIT" .abs 4 .bitAbs, slot2 "AND" .abs 4 .andAbs, slot2 "ROL" .abs 6 .rolAbs,
    slot2 "RLA" .abs 6 .rlaAbs ]

/-- Opcodes $30 to $3F (30_encoding.md, the opcode map and section 4). -/
def dispatchRow3 : List (Option Slot) :=
  [ slot1 "BMI" .rel 2 .bmi, slot1p "AND" .indy 5 .andIndy, none, slot1 "RLA" .indy 8 .rlaIndy, none,
    slot1 "AND" .zpx 4 .andZpx, slot1 "ROL" .zpx 6 .rolZpx, slot1 "RLA" .zpx 6 .rlaZpx,
    slot0 "SEC" .imp 2 .sec, slot2p "AND" .absy 4 .andAbsy, none, slot2 "RLA" .absy 7 .rlaAbsy, none,
    slot2p "AND" .absx 4 .andAbsx, slot2 "ROL" .absx 7 .rolAbsx, slot2 "RLA" .absx 7 .rlaAbsx ]

/-- Opcodes $40 to $4F (30_encoding.md, the opcode map and section 4). -/
def dispatchRow4 : List (Option Slot) :=
  [ slot0 "RTI" .imp 6 .rti, slot1 "EOR" .indx 6 .eorIndx, none, slot1 "SRE" .indx 8 .sreIndx, none,
    slot1 "EOR" .zp 3 .eorZp, slot1 "LSR" .zp 5 .lsrZp, slot1 "SRE" .zp 5 .sreZp, slot0 "PHA" .imp 3 .pha,
    slot1 "EOR" .imm 2 .eorImm, slot0 "LSR" .acc 2 .lsrAcc, none, slot2 "JMP" .abs 3 .jmpAbs,
    slot2 "EOR" .abs 4 .eorAbs, slot2 "LSR" .abs 6 .lsrAbs, slot2 "SRE" .abs 6 .sreAbs ]

/-- Opcodes $50 to $5F (30_encoding.md, the opcode map and section 4). -/
def dispatchRow5 : List (Option Slot) :=
  [ slot1 "BVC" .rel 2 .bvc, slot1p "EOR" .indy 5 .eorIndy, none, slot1 "SRE" .indy 8 .sreIndy, none,
    slot1 "EOR" .zpx 4 .eorZpx, slot1 "LSR" .zpx 6 .lsrZpx, slot1 "SRE" .zpx 6 .sreZpx,
    slot0 "CLI" .imp 2 .cli, slot2p "EOR" .absy 4 .eorAbsy, none, slot2 "SRE" .absy 7 .sreAbsy, none,
    slot2p "EOR" .absx 4 .eorAbsx, slot2 "LSR" .absx 7 .lsrAbsx, slot2 "SRE" .absx 7 .sreAbsx ]

/-- Opcodes $60 to $6F (30_encoding.md, the opcode map and section 4). -/
def dispatchRow6 : List (Option Slot) :=
  [ slot0 "RTS" .imp 6 .rts, slot1 "ADC" .indx 6 .adcIndx, none, slot1 "RRA" .indx 8 .rraIndx, none,
    slot1 "ADC" .zp 3 .adcZp, slot1 "ROR" .zp 5 .rorZp, slot1 "RRA" .zp 5 .rraZp, slot0 "PLA" .imp 4 .pla,
    slot1 "ADC" .imm 2 .adcImm, slot0 "ROR" .acc 2 .rorAcc, none, slot2 "JMP" .ind 5 .jmpInd,
    slot2 "ADC" .abs 4 .adcAbs, slot2 "ROR" .abs 6 .rorAbs, slot2 "RRA" .abs 6 .rraAbs ]

/-- Opcodes $70 to $7F (30_encoding.md, the opcode map and section 4). -/
def dispatchRow7 : List (Option Slot) :=
  [ slot1 "BVS" .rel 2 .bvs, slot1p "ADC" .indy 5 .adcIndy, none, slot1 "RRA" .indy 8 .rraIndy, none,
    slot1 "ADC" .zpx 4 .adcZpx, slot1 "ROR" .zpx 6 .rorZpx, slot1 "RRA" .zpx 6 .rraZpx,
    slot0 "SEI" .imp 2 .sei, slot2p "ADC" .absy 4 .adcAbsy, none, slot2 "RRA" .absy 7 .rraAbsy, none,
    slot2p "ADC" .absx 4 .adcAbsx, slot2 "ROR" .absx 7 .rorAbsx, slot2 "RRA" .absx 7 .rraAbsx ]

/-- Opcodes $80 to $8F (30_encoding.md, the opcode map and section 4). -/
def dispatchRow8 : List (Option Slot) :=
  [ none, slot1 "STA" .indx 6 .staIndx, none, none, slot1 "STY" .zp 3 .styZp, slot1 "STA" .zp 3 .staZp,
    slot1 "STX" .zp 3 .stxZp, none, slot0 "DEY" .imp 2 .dey, none, slot0 "TXA" .imp 2 .txa, none,
    slot2 "STY" .abs 4 .styAbs, slot2 "STA" .abs 4 .staAbs, slot2 "STX" .abs 4 .stxAbs, none ]

/-- Opcodes $90 to $9F (30_encoding.md, the opcode map and section 4). -/
def dispatchRow9 : List (Option Slot) :=
  [ slot1 "BCC" .rel 2 .bcc, slot1 "STA" .indy 6 .staIndy, none, none, slot1 "STY" .zpx 4 .styZpx,
    slot1 "STA" .zpx 4 .staZpx, slot1 "STX" .zpy 4 .stxZpy, none, slot0 "TYA" .imp 2 .tya,
    slot2 "STA" .absy 5 .staAbsy, slot0 "TXS" .imp 2 .txs, none, none, slot2 "STA" .absx 5 .staAbsx, none,
    none ]

/-- Opcodes $A0 to $AF (30_encoding.md, the opcode map and section 4). -/
def dispatchRowA : List (Option Slot) :=
  [ slot1 "LDY" .imm 2 .ldyImm, slot1 "LDA" .indx 6 .ldaIndx, slot1 "LDX" .imm 2 .ldxImm, none,
    slot1 "LDY" .zp 3 .ldyZp, slot1 "LDA" .zp 3 .ldaZp, slot1 "LDX" .zp 3 .ldxZp, none,
    slot0 "TAY" .imp 2 .tay, slot1 "LDA" .imm 2 .ldaImm, slot0 "TAX" .imp 2 .tax, none,
    slot2 "LDY" .abs 4 .ldyAbs, slot2 "LDA" .abs 4 .ldaAbs, slot2 "LDX" .abs 4 .ldxAbs, none ]

/-- Opcodes $B0 to $BF (30_encoding.md, the opcode map and section 4). -/
def dispatchRowB : List (Option Slot) :=
  [ slot1 "BCS" .rel 2 .bcs, slot1p "LDA" .indy 5 .ldaIndy, none, none, slot1 "LDY" .zpx 4 .ldyZpx,
    slot1 "LDA" .zpx 4 .ldaZpx, slot1 "LDX" .zpy 4 .ldxZpy, none, slot0 "CLV" .imp 2 .clv,
    slot2p "LDA" .absy 4 .ldaAbsy, slot0 "TSX" .imp 2 .tsx, none, slot2p "LDY" .absx 4 .ldyAbsx,
    slot2p "LDA" .absx 4 .ldaAbsx, slot2p "LDX" .absy 4 .ldxAbsy, none ]

/-- Opcodes $C0 to $CF (30_encoding.md, the opcode map and section 4). -/
def dispatchRowC : List (Option Slot) :=
  [ slot1 "CPY" .imm 2 .cpyImm, slot1 "CMP" .indx 6 .cmpIndx, none, slot1 "DCP" .indx 8 .dcpIndx,
    slot1 "CPY" .zp 3 .cpyZp, slot1 "CMP" .zp 3 .cmpZp, slot1 "DEC" .zp 5 .decZp, slot1 "DCP" .zp 5 .dcpZp,
    slot0 "INY" .imp 2 .iny, slot1 "CMP" .imm 2 .cmpImm, slot0 "DEX" .imp 2 .dex, none,
    slot2 "CPY" .abs 4 .cpyAbs, slot2 "CMP" .abs 4 .cmpAbs, slot2 "DEC" .abs 6 .decAbs,
    slot2 "DCP" .abs 6 .dcpAbs ]

/-- Opcodes $D0 to $DF (30_encoding.md, the opcode map and section 4). -/
def dispatchRowD : List (Option Slot) :=
  [ slot1 "BNE" .rel 2 .bne, slot1p "CMP" .indy 5 .cmpIndy, none, slot1 "DCP" .indy 8 .dcpIndy, none,
    slot1 "CMP" .zpx 4 .cmpZpx, slot1 "DEC" .zpx 6 .decZpx, slot1 "DCP" .zpx 6 .dcpZpx,
    slot0 "CLD" .imp 2 .cld, slot2p "CMP" .absy 4 .cmpAbsy, none, slot2 "DCP" .absy 7 .dcpAbsy, none,
    slot2p "CMP" .absx 4 .cmpAbsx, slot2 "DEC" .absx 7 .decAbsx, slot2 "DCP" .absx 7 .dcpAbsx ]

/-- Opcodes $E0 to $EF (30_encoding.md, the opcode map and section 4). -/
def dispatchRowE : List (Option Slot) :=
  [ slot1 "CPX" .imm 2 .cpxImm, slot1 "SBC" .indx 6 .sbcIndx, none, slot1 "ISC" .indx 8 .iscIndx,
    slot1 "CPX" .zp 3 .cpxZp, slot1 "SBC" .zp 3 .sbcZp, slot1 "INC" .zp 5 .incZp, slot1 "ISC" .zp 5 .iscZp,
    slot0 "INX" .imp 2 .inx, slot1 "SBC" .imm 2 .sbcImm, slot0 "NOP" .imp 2 .nop, none,
    slot2 "CPX" .abs 4 .cpxAbs, slot2 "SBC" .abs 4 .sbcAbs, slot2 "INC" .abs 6 .incAbs,
    slot2 "ISC" .abs 6 .iscAbs ]

/-- Opcodes $F0 to $FF (30_encoding.md, the opcode map and section 4). -/
def dispatchRowF : List (Option Slot) :=
  [ slot1 "BEQ" .rel 2 .beq, slot1p "SBC" .indy 5 .sbcIndy, none, slot1 "ISC" .indy 8 .iscIndy, none,
    slot1 "SBC" .zpx 4 .sbcZpx, slot1 "INC" .zpx 6 .incZpx, slot1 "ISC" .zpx 6 .iscZpx,
    slot0 "SED" .imp 2 .sed, slot2p "SBC" .absy 4 .sbcAbsy, none, slot2 "ISC" .absy 7 .iscAbsy, none,
    slot2p "SBC" .absx 4 .sbcAbsx, slot2 "INC" .absx 7 .incAbsx, slot2 "ISC" .absx 7 .iscAbsx ]

/-- `DISPATCH`, the 256 slots by high nibble and low nibble of the opcode. -/
def dispatchRows : List (List (Option Slot)) :=
  [ dispatchRow0, dispatchRow1, dispatchRow2, dispatchRow3, dispatchRow4, dispatchRow5, dispatchRow6, dispatchRow7,
    dispatchRow8, dispatchRow9, dispatchRowA, dispatchRowB, dispatchRowC, dispatchRowD, dispatchRowE, dispatchRowF ]

/-- `DISPATCH[op]`: the bound slot of an opcode, or none for an unset slot (10_state.md R33). -/
def dispatch (op : Byte) : Option Slot :=
  (dispatchRows.getD (op.toNat / 16) []).getD (op.toNat % 16) none

/-- Why bytes decode to no instruction. -/
inductive DecodeError where
  /-- The opcode's slot is unset (30_encoding.md R76). -/
  | unsetSlot (op : Byte)
  /-- The byte list ends before the instruction does (notes/assumptions/11.md). -/
  | truncated
  deriving DecidableEq, Repr

/-- The result of decoding: the instruction with the bytes that follow it, or a named rejection. -/
inductive Decoded where
  | ok (i : Instr) (rest : List Byte)
  | rejected (e : DecodeError)
  deriving DecidableEq, Repr

/-- The instruction at the front of a byte list (30_encoding.md R70 to R73). Total: every list of bytes gives
an instruction or a named rejection. -/
def decode : List Byte → Decoded
  | [] => .rejected .truncated
  | op :: bs =>
    match dispatch op with
    | none => .rejected (.unsetSlot op)
    | some t =>
      match t.form, bs with
      | .op i, rest => .ok i rest
      | .opByte make, n :: rest => .ok (make n) rest
      | .opWord make, l :: h :: rest => .ok (make (wordOf h l)) rest
      | _, _ => .rejected .truncated

/-- The bytes of an instruction at rising addresses: opcode, then operand byte or low and high byte
(30_encoding.md R70, R71). -/
def encode : Instr → List Byte
  | .brk => [0x00#8]
  | .oraIndx n => [0x01#8, n]
  | .sloIndx n => [0x03#8, n]
  | .oraZp n => [0x05#8, n]
  | .aslZp n => [0x06#8, n]
  | .sloZp n => [0x07#8, n]
  | .php => [0x08#8]
  | .oraImm n => [0x09#8, n]
  | .aslAcc => [0x0A#8]
  | .oraAbs w => [0x0D#8, lo w, hi w]
  | .aslAbs w => [0x0E#8, lo w, hi w]
  | .sloAbs w => [0x0F#8, lo w, hi w]
  | .bpl off => [0x10#8, off]
  | .oraIndy n => [0x11#8, n]
  | .sloIndy n => [0x13#8, n]
  | .oraZpx n => [0x15#8, n]
  | .aslZpx n => [0x16#8, n]
  | .sloZpx n => [0x17#8, n]
  | .clc => [0x18#8]
  | .oraAbsy w => [0x19#8, lo w, hi w]
  | .sloAbsy w => [0x1B#8, lo w, hi w]
  | .oraAbsx w => [0x1D#8, lo w, hi w]
  | .aslAbsx w => [0x1E#8, lo w, hi w]
  | .sloAbsx w => [0x1F#8, lo w, hi w]
  | .jsr w => [0x20#8, lo w, hi w]
  | .andIndx n => [0x21#8, n]
  | .rlaIndx n => [0x23#8, n]
  | .bitZp n => [0x24#8, n]
  | .andZp n => [0x25#8, n]
  | .rolZp n => [0x26#8, n]
  | .rlaZp n => [0x27#8, n]
  | .plp => [0x28#8]
  | .andImm n => [0x29#8, n]
  | .rolAcc => [0x2A#8]
  | .bitAbs w => [0x2C#8, lo w, hi w]
  | .andAbs w => [0x2D#8, lo w, hi w]
  | .rolAbs w => [0x2E#8, lo w, hi w]
  | .rlaAbs w => [0x2F#8, lo w, hi w]
  | .bmi off => [0x30#8, off]
  | .andIndy n => [0x31#8, n]
  | .rlaIndy n => [0x33#8, n]
  | .andZpx n => [0x35#8, n]
  | .rolZpx n => [0x36#8, n]
  | .rlaZpx n => [0x37#8, n]
  | .sec => [0x38#8]
  | .andAbsy w => [0x39#8, lo w, hi w]
  | .rlaAbsy w => [0x3B#8, lo w, hi w]
  | .andAbsx w => [0x3D#8, lo w, hi w]
  | .rolAbsx w => [0x3E#8, lo w, hi w]
  | .rlaAbsx w => [0x3F#8, lo w, hi w]
  | .rti => [0x40#8]
  | .eorIndx n => [0x41#8, n]
  | .sreIndx n => [0x43#8, n]
  | .eorZp n => [0x45#8, n]
  | .lsrZp n => [0x46#8, n]
  | .sreZp n => [0x47#8, n]
  | .pha => [0x48#8]
  | .eorImm n => [0x49#8, n]
  | .lsrAcc => [0x4A#8]
  | .jmpAbs w => [0x4C#8, lo w, hi w]
  | .eorAbs w => [0x4D#8, lo w, hi w]
  | .lsrAbs w => [0x4E#8, lo w, hi w]
  | .sreAbs w => [0x4F#8, lo w, hi w]
  | .bvc off => [0x50#8, off]
  | .eorIndy n => [0x51#8, n]
  | .sreIndy n => [0x53#8, n]
  | .eorZpx n => [0x55#8, n]
  | .lsrZpx n => [0x56#8, n]
  | .sreZpx n => [0x57#8, n]
  | .cli => [0x58#8]
  | .eorAbsy w => [0x59#8, lo w, hi w]
  | .sreAbsy w => [0x5B#8, lo w, hi w]
  | .eorAbsx w => [0x5D#8, lo w, hi w]
  | .lsrAbsx w => [0x5E#8, lo w, hi w]
  | .sreAbsx w => [0x5F#8, lo w, hi w]
  | .rts => [0x60#8]
  | .adcIndx n => [0x61#8, n]
  | .rraIndx n => [0x63#8, n]
  | .adcZp n => [0x65#8, n]
  | .rorZp n => [0x66#8, n]
  | .rraZp n => [0x67#8, n]
  | .pla => [0x68#8]
  | .adcImm n => [0x69#8, n]
  | .rorAcc => [0x6A#8]
  | .jmpInd w => [0x6C#8, lo w, hi w]
  | .adcAbs w => [0x6D#8, lo w, hi w]
  | .rorAbs w => [0x6E#8, lo w, hi w]
  | .rraAbs w => [0x6F#8, lo w, hi w]
  | .bvs off => [0x70#8, off]
  | .adcIndy n => [0x71#8, n]
  | .rraIndy n => [0x73#8, n]
  | .adcZpx n => [0x75#8, n]
  | .rorZpx n => [0x76#8, n]
  | .rraZpx n => [0x77#8, n]
  | .sei => [0x78#8]
  | .adcAbsy w => [0x79#8, lo w, hi w]
  | .rraAbsy w => [0x7B#8, lo w, hi w]
  | .adcAbsx w => [0x7D#8, lo w, hi w]
  | .rorAbsx w => [0x7E#8, lo w, hi w]
  | .rraAbsx w => [0x7F#8, lo w, hi w]
  | .staIndx n => [0x81#8, n]
  | .styZp n => [0x84#8, n]
  | .staZp n => [0x85#8, n]
  | .stxZp n => [0x86#8, n]
  | .dey => [0x88#8]
  | .txa => [0x8A#8]
  | .styAbs w => [0x8C#8, lo w, hi w]
  | .staAbs w => [0x8D#8, lo w, hi w]
  | .stxAbs w => [0x8E#8, lo w, hi w]
  | .bcc off => [0x90#8, off]
  | .staIndy n => [0x91#8, n]
  | .styZpx n => [0x94#8, n]
  | .staZpx n => [0x95#8, n]
  | .stxZpy n => [0x96#8, n]
  | .tya => [0x98#8]
  | .staAbsy w => [0x99#8, lo w, hi w]
  | .txs => [0x9A#8]
  | .staAbsx w => [0x9D#8, lo w, hi w]
  | .ldyImm n => [0xA0#8, n]
  | .ldaIndx n => [0xA1#8, n]
  | .ldxImm n => [0xA2#8, n]
  | .ldyZp n => [0xA4#8, n]
  | .ldaZp n => [0xA5#8, n]
  | .ldxZp n => [0xA6#8, n]
  | .tay => [0xA8#8]
  | .ldaImm n => [0xA9#8, n]
  | .tax => [0xAA#8]
  | .ldyAbs w => [0xAC#8, lo w, hi w]
  | .ldaAbs w => [0xAD#8, lo w, hi w]
  | .ldxAbs w => [0xAE#8, lo w, hi w]
  | .bcs off => [0xB0#8, off]
  | .ldaIndy n => [0xB1#8, n]
  | .ldyZpx n => [0xB4#8, n]
  | .ldaZpx n => [0xB5#8, n]
  | .ldxZpy n => [0xB6#8, n]
  | .clv => [0xB8#8]
  | .ldaAbsy w => [0xB9#8, lo w, hi w]
  | .tsx => [0xBA#8]
  | .ldyAbsx w => [0xBC#8, lo w, hi w]
  | .ldaAbsx w => [0xBD#8, lo w, hi w]
  | .ldxAbsy w => [0xBE#8, lo w, hi w]
  | .cpyImm n => [0xC0#8, n]
  | .cmpIndx n => [0xC1#8, n]
  | .dcpIndx n => [0xC3#8, n]
  | .cpyZp n => [0xC4#8, n]
  | .cmpZp n => [0xC5#8, n]
  | .decZp n => [0xC6#8, n]
  | .dcpZp n => [0xC7#8, n]
  | .iny => [0xC8#8]
  | .cmpImm n => [0xC9#8, n]
  | .dex => [0xCA#8]
  | .cpyAbs w => [0xCC#8, lo w, hi w]
  | .cmpAbs w => [0xCD#8, lo w, hi w]
  | .decAbs w => [0xCE#8, lo w, hi w]
  | .dcpAbs w => [0xCF#8, lo w, hi w]
  | .bne off => [0xD0#8, off]
  | .cmpIndy n => [0xD1#8, n]
  | .dcpIndy n => [0xD3#8, n]
  | .cmpZpx n => [0xD5#8, n]
  | .decZpx n => [0xD6#8, n]
  | .dcpZpx n => [0xD7#8, n]
  | .cld => [0xD8#8]
  | .cmpAbsy w => [0xD9#8, lo w, hi w]
  | .dcpAbsy w => [0xDB#8, lo w, hi w]
  | .cmpAbsx w => [0xDD#8, lo w, hi w]
  | .decAbsx w => [0xDE#8, lo w, hi w]
  | .dcpAbsx w => [0xDF#8, lo w, hi w]
  | .cpxImm n => [0xE0#8, n]
  | .sbcIndx n => [0xE1#8, n]
  | .iscIndx n => [0xE3#8, n]
  | .cpxZp n => [0xE4#8, n]
  | .sbcZp n => [0xE5#8, n]
  | .incZp n => [0xE6#8, n]
  | .iscZp n => [0xE7#8, n]
  | .inx => [0xE8#8]
  | .sbcImm n => [0xE9#8, n]
  | .nop => [0xEA#8]
  | .cpxAbs w => [0xEC#8, lo w, hi w]
  | .sbcAbs w => [0xED#8, lo w, hi w]
  | .incAbs w => [0xEE#8, lo w, hi w]
  | .iscAbs w => [0xEF#8, lo w, hi w]
  | .beq off => [0xF0#8, off]
  | .sbcIndy n => [0xF1#8, n]
  | .iscIndy n => [0xF3#8, n]
  | .sbcZpx n => [0xF5#8, n]
  | .incZpx n => [0xF6#8, n]
  | .iscZpx n => [0xF7#8, n]
  | .sed => [0xF8#8]
  | .sbcAbsy w => [0xF9#8, lo w, hi w]
  | .iscAbsy w => [0xFB#8, lo w, hi w]
  | .sbcAbsx w => [0xFD#8, lo w, hi w]
  | .incAbsx w => [0xFE#8, lo w, hi w]
  | .iscAbsx w => [0xFF#8, lo w, hi w]

/-- The instruction's length in bytes, 1 to 3 (30_encoding.md R70). -/
def Instr.length (i : Instr) : Nat := (encode i).length

/-- Byte `k` of a number whose bit 0 is the least significant bit of the first byte. -/
def tableByte (w k : Nat) : Byte := BitVec.ofNat 8 (w >>> (8 * k))

/-- The three bytes of a table word of `nbits` bits, the bits above `nbits` zero. -/
def tableBytes (nbits w : Nat) : List Byte :=
  [tableByte (w % 2 ^ nbits) 0, tableByte (w % 2 ^ nbits) 1, tableByte (w % 2 ^ nbits) 2]

/-- The instruction the decoder reads from a table word laid out in bytes, first byte lowest. -/
def decodeTableWord (nbits w : Nat) : Option Instr :=
  match decode (tableBytes nbits w) with
  | .ok i _ => some i
  | .rejected _ => none

end Sys2Proof
end

