-- ==== Sys2Proof/Machine/State.lean ====
section
/-! DEFINITION. The whole state of the block as plain data (10_state.md R40) and its reset values (R41). -/

namespace Sys2Proof.Machine

/-- The fault kinds of the block (60_exceptions.md R273). A fault is recorded in `State.faultState` by
`raiseFault`, and the machine goes on in its faulted state, whose every step changes nothing (10_state.md R31,
R39): no meaning and no step answers with a Host fault (notes/assumptions/2.md; safe). -/
inductive Fault where
  /-- An opcode with no bound handler was dispatched under the policy `fail`. Raised by `unsetSlot`. Safe: a
  program that reaches an unset slot has no completed run (60_exceptions.md R271). -/
  | illegalOpcode
  /-- The image does not fit at its load address. Raised by `load`, before anything is written. Safe
  (60_exceptions.md R274). -/
  | loadOverflow
  /-- The image is not loaded at `P_LOAD_BASE`. Raised by `load`, before anything is written. Safe
  (60_exceptions.md R274). -/
  | unsupportedLoadAddress
  deriving DecidableEq, Repr

/-- Why the model gives no meaning. -/
inductive Refusal where
  /-- The instruction has no meaning in this model. Raised by an arm of `exec`. Safe. No arm is of this kind. -/
  | notModelled (mnemonic : String)
  /-- The host attaches a region outside `start <= end <= $FFFF`, of which 20_memory.md R51 does not speak.
  Raised by `attach`, never by an instruction or a step. Safe (notes/assumptions/10.md). -/
  | regionOutOfSpace
  deriving DecidableEq, Repr

/-- A fault record `{kind, pc, opcode, frame}` (60_exceptions.md R270). -/
structure FaultRecord where
  kind   : Fault
  pc     : Word
  opcode : Byte
  frame  : Nat
  deriving DecidableEq, Repr

/-- RAM contents: (address, byte) pairs in one canonical form (`Memory.wf`). -/
abbrev Memory := List Host.Cell

/-- The canonical form: addresses strictly rise, lie in the 65536 addresses of 20_memory.md R50, and no entry
equals what an unlisted address reads as (`P_RAM_INIT`). -/
abbrev Memory.wf (m : Memory) : Prop :=
  m.Pairwise (fun c d => c.1 < d.1) ∧ ∀ c ∈ m, c.1 < 0x10000 ∧ c.2 ≠ Config.ramInit

/-- A voice of the SID: 0, 1 or 2 (00_scope.md R12). -/
abbrev Voice := Fin 3

/-- The waveforms of a note record (10_state.md R36). -/
inductive Waveform where
  | triangle | sawtooth | pulse | noise
  deriving DecidableEq, Repr

/-- The lifecycle status of a note record (10_state.md R36, 51_note_reconstructor.md R241). -/
inductive NoteStatus where
  | sounding
  /-- The release transition ran at frame `rf`. -/
  | released (rf : Nat)
  | stopped
  deriving DecidableEq, Repr

/-- A note record (10_state.md R36). Durations are exact rationals of seconds (00_scope.md R11). -/
structure Note where
  startFrame : Nat
  pitch      : Int
  waveform   : Waveform
  attack     : Rat
  decay      : Rat
  sustainLen : Rat
  release    : Rat
  bends      : List (Nat × Int)
  status     : NoteStatus
  curPitch   : Int
  deriving DecidableEq, Repr

/-- An entry of the warning log: the voice, the frame and the waveform select bits (10_state.md R38,
51_note_reconstructor.md R246). -/
structure Warning where
  voice : Voice
  frame : Nat
  bits  : Nibble
  deriving DecidableEq, Repr

/-- The state of the block: the tuple of 10_state.md R40. -/
structure State where
  /-- The accumulator A (R21). -/
  a : Byte
  /-- The index register X (R21). -/
  x : Byte
  /-- The index register Y (R21). -/
  y : Byte
  /-- The stack pointer S (R32). -/
  sp : Byte
  /-- The program counter PC (R30). -/
  pc : Word
  /-- The flag byte F = N V U B D I Z C (R22). -/
  f : Byte
  /-- The ticks the current instruction still occupies (R31). -/
  remaining : Nat
  /-- The attached regions in order (R34). -/
  regions : List Region
  /-- The storage of the RAM regions, by address (R34; notes/assumptions/5.md). -/
  mem : Memory
  /-- The voice bank's latches `reg[0..24]` (R35). -/
  reg : Vector Byte 25
  /-- The note lists `notes[0..2]`, each in creation order (R36). -/
  notes : Vector (List Note) 3
  /-- The frame clock (R37). -/
  frame : Nat
  /-- The warning log, oldest first (R38). -/
  warnings : List Warning
  /-- The fault state (R39). -/
  faultState : Option FaultRecord
  deriving DecidableEq, Repr

/-- The state after reset with the memory map `map` attached (10_state.md R41, 70_reset_and_hazards.md R290,
R291). -/
def State.resetWith (map : List Region) : State where
  a := 0x00#8
  x := 0x00#8
  y := 0x00#8
  sp := 0xFF#8
  pc := 0x0000#16
  f := 0x20#8
  remaining := 0
  regions := map
  mem := []
  reg := Vector.replicate 25 0x00#8
  notes := Vector.replicate 3 []
  frame := 0
  warnings := []
  faultState := none

/-- The machine right after reset (10_state.md R41): `P_MEMORY_MAP` attached (20_memory.md R55). -/
def State.reset : State := State.resetWith Config.memoryMap

end Sys2Proof.Machine
end

