-- ==== Sys2Proof/Machine/Flags.lean ====
section
/-! DEFINITION. The flag byte F (10_state.md R22 to R29) and every flag computation of the spec. -/

namespace Sys2Proof.Machine

/-- The eight flags of F (10_state.md R22). -/
inductive Flag where
  | C | Z | I | D | B | U | V | N
  deriving DecidableEq, Repr

/-- The bit of F that holds a flag (10_state.md R22). -/
def flagBit : Flag → Nat
  | .C => 0
  | .Z => 1
  | .I => 2
  | .D => 3
  | .B => 4
  | .U => 5
  | .V => 6
  | .N => 7

/-- The mask of a flag's bit in F. -/
def flagMask (k : Flag) : Byte := 1#8 <<< flagBit k

/-- Flag `k` of the flag byte `f`. -/
def getFlag (f : Byte) (k : Flag) : Bool := f.getLsbD (flagBit k)

/-- The flag byte `f` with flag `k` made `v`, every other bit kept. -/
def putFlag (f : Byte) (k : Flag) (v : Bool) : Byte :=
  if v then f ||| flagMask k else f &&& ~~~ flagMask k

/-- `SetNZ(v)` on a flag byte (00_scope.md R10). -/
def withNZ (f v : Byte) : Byte := putFlag (putFlag f .N v.msb) .Z (v == 0#8)

/-- `A + m + F.C`, a natural number in 0 to 511 (43_alu.md R140). -/
def adcSum (a m : Byte) (c : Bool) : Nat := a.toNat + m.toNat + c.toNat

/-- The sum's low 8 bits (43_alu.md R140). -/
def adcResult (a m : Byte) (c : Bool) : Byte := BitVec.ofNat 8 (adcSum a m c)

/-- The new carry, bit 8 of the sum (43_alu.md R140). -/
def adcCarry (a m : Byte) (c : Bool) : Bool := (adcSum a m c).testBit 8

/-- The new overflow, `(1 ^ (A[7] ^ m[7])) & (A[7] ^ r[7])` (43_alu.md R140). -/
def adcOverflow (a m r : Byte) : Bool := (!(a.msb ^^ m.msb)) && (a.msb ^^ r.msb)

/-- F after `DoADC(m)` (43_alu.md R140). -/
def adcFlags (f a m : Byte) : Byte :=
  let c := getFlag f .C
  let r := adcResult a m c
  withNZ (putFlag (putFlag f .C (adcCarry a m c)) .V (adcOverflow a m r)) r

/-- F after `DoCompare(r, m)`: N is bit 7 of the difference, Z equality, C unsigned `r >= m` (43_alu.md R146). -/
def compareFlags (f r m : Byte) : Byte :=
  putFlag (putFlag (putFlag f .N ((r - m).msb)) .Z (r == m)) .C (decide (m.toNat ≤ r.toNat))

/-- F after BIT: Z from `A & m`, N and V bits 7 and 6 of `m` (43_alu.md R145). -/
def bitFlags (f a m : Byte) : Byte :=
  putFlag (putFlag (putFlag f .Z ((a &&& m) == 0#8)) .N (m.getLsbD 7)) .V (m.getLsbD 6)

/-- The byte PHP pushes, `F | $30` (42_stack.md R132). -/
def pushedFlags (f : Byte) : Byte := f ||| 0x30#8

/-- F after PLP or RTI pulls `v`: `(v & $CF) | (F & $30)`, bits 4 and 5 kept (42_stack.md R134,
45_control.md R192). -/
def pulledFlags (f v : Byte) : Byte := (v &&& 0xCF#8) ||| (f &&& 0x30#8)

/-- Flag `k` of the state. -/
def flag (k : Flag) (s : State) : Bool := getFlag s.f k

end Sys2Proof.Machine
end

