-- ==== Sys2Proof/Machine/Ops.lean ====
section
/-! DEFINITION. The named operations over registers and memory that every meaning is made of, and the one way
in which the block raises a fault. -/

namespace Sys2Proof.Machine

/-! ## Registers -/

/-- `A <- v`. -/
def setA (v : Byte) (s : State) : State := { s with a := v }
/-- `X <- v`. -/
def setX (v : Byte) (s : State) : State := { s with x := v }
/-- `Y <- v`. -/
def setY (v : Byte) (s : State) : State := { s with y := v }
/-- `S <- v`. -/
def setSp (v : Byte) (s : State) : State := { s with sp := v }
/-- `PC <- v`. -/
def setPc (v : Word) (s : State) : State := { s with pc := v }
/-- `F <- v`. -/
def setF (v : Byte) (s : State) : State := { s with f := v }
/-- `F.k <- v`. -/
def setFlag (k : Flag) (v : Bool) (s : State) : State := { s with f := putFlag s.f k v }
/-- `SetNZ(v)` (00_scope.md R10). -/
def setNZ (v : Byte) (s : State) : State := { s with f := withNZ s.f v }
/-- `cycles <- n`: the instruction occupies `n` ticks, the current one and `n - 1` more (10_state.md R31;
notes/assumptions/4.md). -/
def setCycles (n : Nat) (s : State) : State := { s with remaining := n - 1 }

/-! ## Memory -/

/-- The byte of a RAM address: the byte listed for it, or `P_RAM_INIT` (20_memory.md R54). -/
def Memory.read : Memory → Nat → Byte
  | [], _ => Config.ramInit
  | c :: rest, addr => if c.1 = addr then c.2 else Memory.read rest addr

/-- RAM with `v` stored at an address, in canonical form again: storing what an unlisted address reads as
removes the entry. -/
def Memory.write : Memory → Nat → Byte → Memory
  | [], addr, v => if v = Config.ramInit then [] else [(addr, v)]
  | c :: rest, addr, v =>
    if addr < c.1 then if v = Config.ramInit then c :: rest else (addr, v) :: c :: rest
    else if addr = c.1 then if v = Config.ramInit then rest else (addr, v) :: rest
    else c :: Memory.write rest addr v

/-- Does a region cover an address: `r.start <= addr <= r.end` (20_memory.md R52). -/
def covers (r : Region) (addr : Word) : Bool := r.start ≤ addr.toNat && addr.toNat ≤ r.stop

/-- The first attached region that covers an address, if any (20_memory.md R52). -/
def regionAt (s : State) (addr : Word) : Option Region :=
  s.regions.find? (fun r => covers r addr)

/-- `poke(i, v)`: the byte is latched, whole, for an index 0 to 24; no other index has an effect
(50_voice_bank.md R220). -/
def poke (i : Nat) (v : Byte) (s : State) : State :=
  if h : i < 25 then { s with reg := s.reg.set i v h } else s

/-- `MemRead(addr, 1)` (20_memory.md R52, R54): RAM gives its byte, the SID sink $00, an unmapped address
$00. -/
def memRead (s : State) (addr : Word) : Byte :=
  match regionAt s addr with
  | some r =>
    match r.kind with
    | .ram => Memory.read s.mem addr.toNat
    | .sid => 0x00#8
  | none => 0x00#8

/-- `MemWrite(addr, 1, v)` (20_memory.md R53, R54): RAM stores the byte, the SID sink pokes the offset from the
region's start, an unmapped address discards it. -/
def memWrite (addr : Word) (v : Byte) (s : State) : State :=
  match regionAt s addr with
  | some r =>
    match r.kind with
    | .ram => { s with mem := Memory.write s.mem addr.toNat v }
    | .sid => poke (addr.toNat - r.start) v s
  | none => s

/-- `FetchByte()`: the byte at PC and the state with PC advanced, modulo 2^16 (40_addressing.md R90). -/
def fetchByte (s : State) : Byte × State := (memRead s s.pc, setPc (s.pc + 1#16) s)

/-! ## The stack -/

/-- The address the stack pointer value `sp` names, `P_STACK_BASE + S` (10_state.md R32, 20_memory.md R60). -/
def stackAddr (sp : Byte) : Word := Config.stackBase + sp.setWidth 16

/-- `Push(v)`: write, then decrement S modulo 2^8 (20_memory.md R60). -/
def push (v : Byte) (s : State) : State := setSp (s.sp - 1#8) (memWrite (stackAddr s.sp) v s)

/-- `Pull()`: increment S modulo 2^8, then read (20_memory.md R61). -/
def pull (s : State) : Byte × State :=
  (memRead s (stackAddr (s.sp + 1#8)), setSp (s.sp + 1#8) s)

/-! ## Faults

The block has no trap entry and no trap return: no event saves state, changes a mode, pushes to the stack or
redirects the PC (60_exceptions.md R278, R279). Its one exceptional event is the raising of a fault. Nothing
returns from it but reset (R270); RTI is an ordinary stack instruction (45_control.md R192). -/

/-- `raise Fault(kind, info)`: the fault state is set to the record and nothing else changes
(60_exceptions.md R270). -/
def raiseFault (kind : Fault) (pc : Word) (opcode : Byte) (s : State) : State :=
  { s with faultState := some ⟨kind, pc, opcode, s.frame⟩ }

/-- Leaving a fault, or any other state: reset sets every piece of state (70_reset_and_hazards.md R290). -/
def hostReset (_ : State) : State := State.reset

/-- The numeric codes of the fault kinds (60_exceptions.md R273). -/
def faultCode : Fault → Nat
  | .illegalOpcode => 0
  | .loadOverflow => 1
  | .unsupportedLoadAddress => 2

/-- Dispatch of an unset slot: `op` was fetched from `opAddr` and PC is already `opAddr + 1`
(60_exceptions.md R271). -/
def unsetSlot (policy : IllegalPolicy) (opAddr : Word) (op : Byte) (s : State) : State :=
  match policy with
  | .fail => raiseFault .illegalOpcode opAddr op s
  | .nop1 => { s with remaining := 0 }

/-! ## Operations the instructions share -/

/-- What a meaning answers: every instruction completes (41_load_store_transfer.md R110: no instruction raises an
exception). -/
abbrev Result := Host.Outcome State Fault Refusal

/-- Load A and set N and Z. -/
def loadA (m : Byte) (s : State) : State := setNZ m (setA m s)
/-- Load X and set N and Z. -/
def loadX (m : Byte) (s : State) : State := setNZ m (setX m s)
/-- Load Y and set N and Z. -/
def loadY (m : Byte) (s : State) : State := setNZ m (setY m s)

/-- `DoADC(m)`: binary whatever F.D holds (43_alu.md R140). -/
def doAdc (m : Byte) (s : State) : State :=
  setF (adcFlags s.f s.a m) (setA (adcResult s.a m (flag .C s)) s)

/-- `DoSBC(m)` = `DoADC(~m)` (43_alu.md R141). -/
def doSbc (m : Byte) (s : State) : State := doAdc (~~~ m) s

/-- `A <- A & m; SetNZ(A)` (43_alu.md R142). -/
def doAnd (m : Byte) (s : State) : State := loadA (s.a &&& m) s
/-- `A <- A ^ m; SetNZ(A)` (43_alu.md R143). -/
def doEor (m : Byte) (s : State) : State := loadA (s.a ^^^ m) s
/-- `A <- A | m; SetNZ(A)` (43_alu.md R144). -/
def doOra (m : Byte) (s : State) : State := loadA (s.a ||| m) s
/-- BIT (43_alu.md R145). -/
def doBit (m : Byte) (s : State) : State := setF (bitFlags s.f s.a m) s

/-- `DoCompare(r, m)`: writes no register (43_alu.md R146). -/
def doCompare (r m : Byte) (s : State) : State := setF (compareFlags s.f r m) s
/-- `DoCompare(A, m)`. -/
def compareA (m : Byte) (s : State) : State := doCompare s.a m s
/-- `DoCompare(X, m)`. -/
def compareX (m : Byte) (s : State) : State := doCompare s.x m s
/-- `DoCompare(Y, m)`. -/
def compareY (m : Byte) (s : State) : State := doCompare s.y m s

/-- `(m + 1) mod 2^8`, no flag (44_inc_dec_shift.md R160). -/
def doInc (m : Byte) (s : State) : Byte × State := (m + 1#8, s)
/-- `(m - 1) mod 2^8`, no flag (44_inc_dec_shift.md R161). -/
def doDec (m : Byte) (s : State) : Byte × State := (m - 1#8, s)
/-- `DoASL(v)`: C is bit 7, 0 comes in at bit 0 (44_inc_dec_shift.md R166). -/
def doAsl (v : Byte) (s : State) : Byte × State := (v <<< 1, setFlag .C (v.getLsbD 7) s)
/-- `DoLSR(v)`: C is bit 0, 0 comes in at bit 7 (44_inc_dec_shift.md R166). -/
def doLsr (v : Byte) (s : State) : Byte × State := (v >>> 1, setFlag .C (v.getLsbD 0) s)
/-- `DoROL(v)`: C is bit 7, the old C comes in at bit 0 (44_inc_dec_shift.md R166). -/
def doRol (v : Byte) (s : State) : Byte × State :=
  ((v <<< 1) ||| (if flag .C s then 0x01#8 else 0x00#8), setFlag .C (v.getLsbD 7) s)
/-- `DoROR(v)`: C is bit 0, the old C comes in at bit 7 (44_inc_dec_shift.md R166). -/
def doRor (v : Byte) (s : State) : Byte × State :=
  ((v >>> 1) ||| (if flag .C s then 0x80#8 else 0x00#8), setFlag .C (v.getLsbD 0) s)

end Sys2Proof.Machine
end

