-- ==== Sys2Proof/Machine/Operands.lean ====
section
/-! DEFINITION. Every operand form of 40_addressing.md: the effective address with its page-cross indicator, and the
access patterns of R105. The operand byte `n` and word `w` were fetched with the opcode
(notes/assumptions/3.md). -/

namespace Sys2Proof.Machine

/-- `zext_16(b)` (00_scope.md R9). -/
def zext (b : Byte) : Word := b.setWidth 16

/-- `sext_16(b)` (00_scope.md R9). -/
def sext (b : Byte) : Word := b.signExtend 16

/-- What a resolver yields: an effective address and the page-cross indicator, 0 or 1 (40_addressing.md R91). -/
structure Resolved where
  ea      : Word
  penalty : Nat
  deriving DecidableEq, Repr

/-- A mode that reports no penalty (40_addressing.md R91). -/
def plainEa (ea : Word) : Resolved := ⟨ea, 0⟩

/-- `base + index` modulo 2^16; the penalty is 1 when the high byte changes (40_addressing.md R91, R99). -/
def indexedEa (base : Word) (index : Byte) : Resolved :=
  ⟨base + zext index, if hi base ≠ hi (base + zext index) then 1 else 0⟩

/-- The pointer held in page zero at `zp` and `(zp + 1) mod 2^8`, low byte first (40_addressing.md R102, R103). -/
def zpPointer (zp : Byte) (s : State) : Word :=
  wordOf (memRead s (zext (zp + 1#8))) (memRead s (zext zp))

/-- Zero page (40_addressing.md R95). -/
def eaZp (n : Byte) : Resolved := plainEa (zext n)
/-- Zero page indexed by X, wrapping in page zero (40_addressing.md R96). -/
def eaZpx (n : Byte) (s : State) : Resolved := plainEa (zext (n + s.x))
/-- Zero page indexed by Y, wrapping in page zero (40_addressing.md R97). -/
def eaZpy (n : Byte) (s : State) : Resolved := plainEa (zext (n + s.y))
/-- Absolute (40_addressing.md R98). -/
def eaAbs (w : Word) : Resolved := plainEa w
/-- Absolute indexed by X (40_addressing.md R99). -/
def eaAbsx (w : Word) (s : State) : Resolved := indexedEa w s.x
/-- Absolute indexed by Y (40_addressing.md R100). -/
def eaAbsy (w : Word) (s : State) : Resolved := indexedEa w s.y
/-- Indexed indirect (40_addressing.md R102). -/
def eaIndx (n : Byte) (s : State) : Resolved := plainEa (zpPointer (n + s.x) s)
/-- Indirect indexed (40_addressing.md R103). -/
def eaIndy (n : Byte) (s : State) : Resolved := indexedEa (zpPointer n s) s.y

/-- Indirect, JMP only. With `wrap` (`P_JMP_IND_WRAP`) the pointer's high byte comes from the same page
(40_addressing.md R101). -/
def eaInd (wrap : Bool) (ptr : Word) (s : State) : Word :=
  let hiAddr := if wrap then wordOf (hi ptr) (lo ptr + 1#8) else ptr + 1#16
  wordOf (memRead s hiAddr) (memRead s ptr)

/-! ## Access patterns (40_addressing.md R105) -/

/-- An immediate operand `m` given to `op`, in `base` ticks (40_addressing.md R94). -/
def immOp (m : Byte) (base : Nat) (op : Byte → State → State) (s : State) : State :=
  setCycles base (op m s)

/-- Read: the operand at the effective address given to `op`, in `base` ticks plus the page-cross indicator. -/
def readOp (r : Resolved) (base : Nat) (op : Byte → State → State) (s : State) : State :=
  setCycles (base + r.penalty) (op (memRead s r.ea) s)

/-- Write: `v` stored at the effective address, in `base` ticks (30_encoding.md R77: no penalty). -/
def storeOp (r : Resolved) (base : Nat) (v : Byte) (s : State) : State :=
  setCycles base (memWrite r.ea v s)

/-- Read-modify-write: `f` of the operand is written back to the same address, then `g` of the written byte
acts, in `base` ticks (44_inc_dec_shift.md; 47_undocumented_rmw.md R210). -/
def rmwOp (r : Resolved) (base : Nat) (f : Byte → State → Byte × State) (g : Byte → State → State)
    (s : State) : State :=
  let vs := f (memRead s r.ea) s
  setCycles base (g vs.1 (memWrite r.ea vs.1 vs.2))

/-- Accumulator form of a shift or rotate, 2 ticks (40_addressing.md R93, 44_inc_dec_shift.md R167). -/
def accOp (f : Byte → State → Byte × State) (s : State) : State :=
  let vs := f s.a s
  setCycles 2 (loadA vs.1 vs.2)

/-- `Branch(cond)`: 2 ticks not taken, 3 taken, 4 when the target's page differs from that of the next
instruction, whose address PC holds (45_control.md R183). -/
def branchOp (cond : Bool) (off : Byte) (s : State) : State :=
  let target := s.pc + sext off
  if cond then setCycles (if hi target ≠ hi s.pc then 4 else 3) (setPc target s) else setCycles 2 s

end Sys2Proof.Machine
end

