-- ==== Sys2Proof/Machine/Alu.lean ====
section
/-! DEFINITION. The meanings of: Arithmetic, logic, bit test and compare (43_alu.md).
One definition per slot; PC already holds the address after the instruction (notes/assumptions/3.md). -/

namespace Sys2Proof.Machine

/-- `ADC ($nn,X)` (R140). -/
def execAdcIndx (n : Byte) (s : State) : Result := .next (readOp (eaIndx n s) 6 doAdc s)

/-- `ADC $nn` (R140). -/
def execAdcZp (n : Byte) (s : State) : Result := .next (readOp (eaZp n) 3 doAdc s)

/-- `ADC #$nn` (R140). -/
def execAdcImm (n : Byte) (s : State) : Result := .next (immOp n 2 doAdc s)

/-- `ADC $nnnn` (R140). -/
def execAdcAbs (w : Word) (s : State) : Result := .next (readOp (eaAbs w) 4 doAdc s)

/-- `ADC ($nn),Y` (R140). -/
def execAdcIndy (n : Byte) (s : State) : Result := .next (readOp (eaIndy n s) 5 doAdc s)

/-- `ADC $nn,X` (R140). -/
def execAdcZpx (n : Byte) (s : State) : Result := .next (readOp (eaZpx n s) 4 doAdc s)

/-- `ADC $nnnn,Y` (R140). -/
def execAdcAbsy (w : Word) (s : State) : Result := .next (readOp (eaAbsy w s) 4 doAdc s)

/-- `ADC $nnnn,X` (R140). -/
def execAdcAbsx (w : Word) (s : State) : Result := .next (readOp (eaAbsx w s) 4 doAdc s)

/-- `SBC ($nn,X)` (R141). -/
def execSbcIndx (n : Byte) (s : State) : Result := .next (readOp (eaIndx n s) 6 doSbc s)

/-- `SBC $nn` (R141). -/
def execSbcZp (n : Byte) (s : State) : Result := .next (readOp (eaZp n) 3 doSbc s)

/-- `SBC #$nn` (R141). -/
def execSbcImm (n : Byte) (s : State) : Result := .next (immOp n 2 doSbc s)

/-- `SBC $nnnn` (R141). -/
def execSbcAbs (w : Word) (s : State) : Result := .next (readOp (eaAbs w) 4 doSbc s)

/-- `SBC ($nn),Y` (R141). -/
def execSbcIndy (n : Byte) (s : State) : Result := .next (readOp (eaIndy n s) 5 doSbc s)

/-- `SBC $nn,X` (R141). -/
def execSbcZpx (n : Byte) (s : State) : Result := .next (readOp (eaZpx n s) 4 doSbc s)

/-- `SBC $nnnn,Y` (R141). -/
def execSbcAbsy (w : Word) (s : State) : Result := .next (readOp (eaAbsy w s) 4 doSbc s)

/-- `SBC $nnnn,X` (R141). -/
def execSbcAbsx (w : Word) (s : State) : Result := .next (readOp (eaAbsx w s) 4 doSbc s)

/-- `AND ($nn,X)` (R142). -/
def execAndIndx (n : Byte) (s : State) : Result := .next (readOp (eaIndx n s) 6 doAnd s)

/-- `AND $nn` (R142). -/
def execAndZp (n : Byte) (s : State) : Result := .next (readOp (eaZp n) 3 doAnd s)

/-- `AND #$nn` (R142). -/
def execAndImm (n : Byte) (s : State) : Result := .next (immOp n 2 doAnd s)

/-- `AND $nnnn` (R142). -/
def execAndAbs (w : Word) (s : State) : Result := .next (readOp (eaAbs w) 4 doAnd s)

/-- `AND ($nn),Y` (R142). -/
def execAndIndy (n : Byte) (s : State) : Result := .next (readOp (eaIndy n s) 5 doAnd s)

/-- `AND $nn,X` (R142). -/
def execAndZpx (n : Byte) (s : State) : Result := .next (readOp (eaZpx n s) 4 doAnd s)

/-- `AND $nnnn,Y` (R142). -/
def execAndAbsy (w : Word) (s : State) : Result := .next (readOp (eaAbsy w s) 4 doAnd s)

/-- `AND $nnnn,X` (R142). -/
def execAndAbsx (w : Word) (s : State) : Result := .next (readOp (eaAbsx w s) 4 doAnd s)

/-- `EOR ($nn,X)` (R143). -/
def execEorIndx (n : Byte) (s : State) : Result := .next (readOp (eaIndx n s) 6 doEor s)

/-- `EOR $nn` (R143). -/
def execEorZp (n : Byte) (s : State) : Result := .next (readOp (eaZp n) 3 doEor s)

/-- `EOR #$nn` (R143). -/
def execEorImm (n : Byte) (s : State) : Result := .next (immOp n 2 doEor s)

/-- `EOR $nnnn` (R143). -/
def execEorAbs (w : Word) (s : State) : Result := .next (readOp (eaAbs w) 4 doEor s)

/-- `EOR ($nn),Y` (R143). -/
def execEorIndy (n : Byte) (s : State) : Result := .next (readOp (eaIndy n s) 5 doEor s)

/-- `EOR $nn,X` (R143). -/
def execEorZpx (n : Byte) (s : State) : Result := .next (readOp (eaZpx n s) 4 doEor s)

/-- `EOR $nnnn,Y` (R143). -/
def execEorAbsy (w : Word) (s : State) : Result := .next (readOp (eaAbsy w s) 4 doEor s)

/-- `EOR $nnnn,X` (R143). -/
def execEorAbsx (w : Word) (s : State) : Result := .next (readOp (eaAbsx w s) 4 doEor s)

/-- `ORA ($nn,X)` (R144). -/
def execOraIndx (n : Byte) (s : State) : Result := .next (readOp (eaIndx n s) 6 doOra s)

/-- `ORA $nn` (R144). -/
def execOraZp (n : Byte) (s : State) : Result := .next (readOp (eaZp n) 3 doOra s)

/-- `ORA #$nn` (R144). -/
def execOraImm (n : Byte) (s : State) : Result := .next (immOp n 2 doOra s)

/-- `ORA $nnnn` (R144). -/
def execOraAbs (w : Word) (s : State) : Result := .next (readOp (eaAbs w) 4 doOra s)

/-- `ORA ($nn),Y` (R144). -/
def execOraIndy (n : Byte) (s : State) : Result := .next (readOp (eaIndy n s) 5 doOra s)

/-- `ORA $nn,X` (R144). -/
def execOraZpx (n : Byte) (s : State) : Result := .next (readOp (eaZpx n s) 4 doOra s)

/-- `ORA $nnnn,Y` (R144). -/
def execOraAbsy (w : Word) (s : State) : Result := .next (readOp (eaAbsy w s) 4 doOra s)

/-- `ORA $nnnn,X` (R144). -/
def execOraAbsx (w : Word) (s : State) : Result := .next (readOp (eaAbsx w s) 4 doOra s)

/-- `BIT $nn` (R145). -/
def execBitZp (n : Byte) (s : State) : Result := .next (readOp (eaZp n) 3 doBit s)

/-- `BIT $nnnn` (R145). -/
def execBitAbs (w : Word) (s : State) : Result := .next (readOp (eaAbs w) 4 doBit s)

/-- `CMP ($nn,X)` (R147). -/
def execCmpIndx (n : Byte) (s : State) : Result := .next (readOp (eaIndx n s) 6 compareA s)

/-- `CMP $nn` (R147). -/
def execCmpZp (n : Byte) (s : State) : Result := .next (readOp (eaZp n) 3 compareA s)

/-- `CMP #$nn` (R147). -/
def execCmpImm (n : Byte) (s : State) : Result := .next (immOp n 2 compareA s)

/-- `CMP $nnnn` (R147). -/
def execCmpAbs (w : Word) (s : State) : Result := .next (readOp (eaAbs w) 4 compareA s)

/-- `CMP ($nn),Y` (R147). -/
def execCmpIndy (n : Byte) (s : State) : Result := .next (readOp (eaIndy n s) 5 compareA s)

/-- `CMP $nn,X` (R147). -/
def execCmpZpx (n : Byte) (s : State) : Result := .next (readOp (eaZpx n s) 4 compareA s)

/-- `CMP $nnnn,Y` (R147). -/
def execCmpAbsy (w : Word) (s : State) : Result := .next (readOp (eaAbsy w s) 4 compareA s)

/-- `CMP $nnnn,X` (R147). -/
def execCmpAbsx (w : Word) (s : State) : Result := .next (readOp (eaAbsx w s) 4 compareA s)

/-- `CPX #$nn` (R148). -/
def execCpxImm (n : Byte) (s : State) : Result := .next (immOp n 2 compareX s)

/-- `CPX $nn` (R148). -/
def execCpxZp (n : Byte) (s : State) : Result := .next (readOp (eaZp n) 3 compareX s)

/-- `CPX $nnnn` (R148). -/
def execCpxAbs (w : Word) (s : State) : Result := .next (readOp (eaAbs w) 4 compareX s)

/-- `CPY #$nn` (R149). -/
def execCpyImm (n : Byte) (s : State) : Result := .next (immOp n 2 compareY s)

/-- `CPY $nn` (R149). -/
def execCpyZp (n : Byte) (s : State) : Result := .next (readOp (eaZp n) 3 compareY s)

/-- `CPY $nnnn` (R149). -/
def execCpyAbs (w : Word) (s : State) : Result := .next (readOp (eaAbs w) 4 compareY s)

end Sys2Proof.Machine
end

