-- ==== Sys2Proof/Machine/Control.lean ====
section
/-! DEFINITION. The meanings of: Control transfer, branches, RTI, NOP and BRK (45_control.md).
One definition per slot; PC already holds the address after the instruction (notes/assumptions/3.md). -/

namespace Sys2Proof.Machine

/-- `JMP $nnnn` (R180). -/
def execJmpAbs (w : Word) (s : State) : Result := .next (setCycles 3 (setPc w s))

/-- `JMP ($nnnn)` (R180). -/
def execJmpInd (w : Word) (s : State) : Result := .next (setCycles 5 (setPc (eaInd Config.jmpIndWrap w s) s))

/-- `JSR $nnnn` (R181). -/
def execJsr (w : Word) (s : State) : Result :=
  let ret := s.pc - 1#16
  .next (setCycles 6 (setPc w (push (lo ret) (push (hi ret) s))))

/-- `RTS` (R182). -/
def execRts (s : State) : Result :=
  let l := pull s
  let h := pull l.2
  .next (setCycles 6 (setPc (wordOf h.1 l.1 + 1#16) h.2))

/-- `BPL $nnnn (target)` (R184). -/
def execBpl (off : Byte) (s : State) : Result := .next (branchOp (!flag .N s) off s)

/-- `BMI $nnnn (target)` (R185). -/
def execBmi (off : Byte) (s : State) : Result := .next (branchOp (flag .N s) off s)

/-- `BVC $nnnn (target)` (R186). -/
def execBvc (off : Byte) (s : State) : Result := .next (branchOp (!flag .V s) off s)

/-- `BVS $nnnn (target)` (R187). -/
def execBvs (off : Byte) (s : State) : Result := .next (branchOp (flag .V s) off s)

/-- `BCC $nnnn (target)` (R188). -/
def execBcc (off : Byte) (s : State) : Result := .next (branchOp (!flag .C s) off s)

/-- `BCS $nnnn (target)` (R189). -/
def execBcs (off : Byte) (s : State) : Result := .next (branchOp (flag .C s) off s)

/-- `BNE $nnnn (target)` (R190). -/
def execBne (off : Byte) (s : State) : Result := .next (branchOp (!flag .Z s) off s)

/-- `BEQ $nnnn (target)` (R191). -/
def execBeq (off : Byte) (s : State) : Result := .next (branchOp (flag .Z s) off s)

/-- `RTI` (R192). -/
def execRti (s : State) : Result :=
  let v := pull s
  let l := pull (setF (pulledFlags s.f v.1) v.2)
  let h := pull l.2
  .next (setCycles 6 (setPc (wordOf h.1 l.1) h.2))

/-- `NOP` (R193). -/
def execNop (s : State) : Result := .next (setCycles 2 s)

/-- `BRK` (R194). -/
def execBrk (s : State) : Result := .next (setCycles 7 (setFlag .B true s))

end Sys2Proof.Machine
end

