-- ==== Sys2Proof/Machine/FlagOps.lean ====
section
/-! DEFINITION. The meanings of: Flag instructions (46_flag_ops.md).
One definition per slot; PC already holds the address after the instruction (notes/assumptions/3.md). -/

namespace Sys2Proof.Machine

/-- `CLC` (R200). -/
def execClc (s : State) : Result := .next (setCycles 2 (setFlag .C false s))

/-- `SEC` (R201). -/
def execSec (s : State) : Result := .next (setCycles 2 (setFlag .C true s))

/-- `CLI` (R202). -/
def execCli (s : State) : Result := .next (setCycles 2 (setFlag .I false s))

/-- `SEI` (R203). -/
def execSei (s : State) : Result := .next (setCycles 2 (setFlag .I true s))

/-- `CLV` (R204). -/
def execClv (s : State) : Result := .next (setCycles 2 (setFlag .V false s))

/-- `CLD` (R205). -/
def execCld (s : State) : Result := .next (setCycles 2 (setFlag .D false s))

/-- `SED` (R206). -/
def execSed (s : State) : Result := .next (setCycles 2 (setFlag .D true s))

end Sys2Proof.Machine
end

