-- ==== Sys2Proof/Machine/IncDecShift.lean ====
section
/-! DEFINITION. The meanings of: Increments, decrements, shifts and rotates (44_inc_dec_shift.md).
One definition per slot; PC already holds the address after the instruction (notes/assumptions/3.md). -/

namespace Sys2Proof.Machine

/-- `INC $nn` (R160). -/
def execIncZp (n : Byte) (s : State) : Result := .next (rmwOp (eaZp n) 5 doInc setNZ s)

/-- `INC $nnnn` (R160). -/
def execIncAbs (w : Word) (s : State) : Result := .next (rmwOp (eaAbs w) 6 doInc setNZ s)

/-- `INC $nn,X` (R160). -/
def execIncZpx (n : Byte) (s : State) : Result := .next (rmwOp (eaZpx n s) 6 doInc setNZ s)

/-- `INC $nnnn,X` (R160). -/
def execIncAbsx (w : Word) (s : State) : Result := .next (rmwOp (eaAbsx w s) 7 doInc setNZ s)

/-- `DEC $nn` (R161). -/
def execDecZp (n : Byte) (s : State) : Result := .next (rmwOp (eaZp n) 5 doDec setNZ s)

/-- `DEC $nnnn` (R161). -/
def execDecAbs (w : Word) (s : State) : Result := .next (rmwOp (eaAbs w) 6 doDec setNZ s)

/-- `DEC $nn,X` (R161). -/
def execDecZpx (n : Byte) (s : State) : Result := .next (rmwOp (eaZpx n s) 6 doDec setNZ s)

/-- `DEC $nnnn,X` (R161). -/
def execDecAbsx (w : Word) (s : State) : Result := .next (rmwOp (eaAbsx w s) 7 doDec setNZ s)

/-- `INX` (R162). -/
def execInx (s : State) : Result := .next (setCycles 2 (loadX (s.x + 1#8) s))

/-- `INY` (R163). -/
def execIny (s : State) : Result := .next (setCycles 2 (loadY (s.y + 1#8) s))

/-- `DEX` (R164). -/
def execDex (s : State) : Result := .next (setCycles 2 (loadX (s.x - 1#8) s))

/-- `DEY` (R165). -/
def execDey (s : State) : Result := .next (setCycles 2 (loadY (s.y - 1#8) s))

/-- `ASL $nn` (R167). -/
def execAslZp (n : Byte) (s : State) : Result := .next (rmwOp (eaZp n) 5 doAsl setNZ s)

/-- `ASL A` (R167). -/
def execAslAcc (s : State) : Result := .next (accOp doAsl s)

/-- `ASL $nnnn` (R167). -/
def execAslAbs (w : Word) (s : State) : Result := .next (rmwOp (eaAbs w) 6 doAsl setNZ s)

/-- `ASL $nn,X` (R167). -/
def execAslZpx (n : Byte) (s : State) : Result := .next (rmwOp (eaZpx n s) 6 doAsl setNZ s)

/-- `ASL $nnnn,X` (R167). -/
def execAslAbsx (w : Word) (s : State) : Result := .next (rmwOp (eaAbsx w s) 7 doAsl setNZ s)

/-- `LSR $nn` (R168). -/
def execLsrZp (n : Byte) (s : State) : Result := .next (rmwOp (eaZp n) 5 doLsr setNZ s)

/-- `LSR A` (R168). -/
def execLsrAcc (s : State) : Result := .next (accOp doLsr s)

/-- `LSR $nnnn` (R168). -/
def execLsrAbs (w : Word) (s : State) : Result := .next (rmwOp (eaAbs w) 6 doLsr setNZ s)

/-- `LSR $nn,X` (R168). -/
def execLsrZpx (n : Byte) (s : State) : Result := .next (rmwOp (eaZpx n s) 6 doLsr setNZ s)

/-- `LSR $nnnn,X` (R168). -/
def execLsrAbsx (w : Word) (s : State) : Result := .next (rmwOp (eaAbsx w s) 7 doLsr setNZ s)

/-- `ROL $nn` (R169). -/
def execRolZp (n : Byte) (s : State) : Result := .next (rmwOp (eaZp n) 5 doRol setNZ s)

/-- `ROL A` (R169). -/
def execRolAcc (s : State) : Result := .next (accOp doRol s)

/-- `ROL $nnnn` (R169). -/
def execRolAbs (w : Word) (s : State) : Result := .next (rmwOp (eaAbs w) 6 doRol setNZ s)

/-- `ROL $nn,X` (R169). -/
def execRolZpx (n : Byte) (s : State) : Result := .next (rmwOp (eaZpx n s) 6 doRol setNZ s)

/-- `ROL $nnnn,X` (R169). -/
def execRolAbsx (w : Word) (s : State) : Result := .next (rmwOp (eaAbsx w s) 7 doRol setNZ s)

/-- `ROR $nn` (R170). -/
def execRorZp (n : Byte) (s : State) : Result := .next (rmwOp (eaZp n) 5 doRor setNZ s)

/-- `ROR A` (R170). -/
def execRorAcc (s : State) : Result := .next (accOp doRor s)

/-- `ROR $nnnn` (R170). -/
def execRorAbs (w : Word) (s : State) : Result := .next (rmwOp (eaAbs w) 6 doRor setNZ s)

/-- `ROR $nn,X` (R170). -/
def execRorZpx (n : Byte) (s : State) : Result := .next (rmwOp (eaZpx n s) 6 doRor setNZ s)

/-- `ROR $nnnn,X` (R170). -/
def execRorAbsx (w : Word) (s : State) : Result := .next (rmwOp (eaAbsx w s) 7 doRor setNZ s)

end Sys2Proof.Machine
end

