-- ==== Sys2Proof/Machine/LoadStore.lean ====
section
/-! DEFINITION. The meanings of: Loads, stores and register transfers (41_load_store_transfer.md).
One definition per slot; PC already holds the address after the instruction (notes/assumptions/3.md). -/

namespace Sys2Proof.Machine

/-- `LDA ($nn,X)` (R111). -/
def execLdaIndx (n : Byte) (s : State) : Result := .next (readOp (eaIndx n s) 6 loadA s)

/-- `LDA $nn` (R111). -/
def execLdaZp (n : Byte) (s : State) : Result := .next (readOp (eaZp n) 3 loadA s)

/-- `LDA #$nn` (R111). -/
def execLdaImm (n : Byte) (s : State) : Result := .next (immOp n 2 loadA s)

/-- `LDA $nnnn` (R111). -/
def execLdaAbs (w : Word) (s : State) : Result := .next (readOp (eaAbs w) 4 loadA s)

/-- `LDA ($nn),Y` (R111). -/
def execLdaIndy (n : Byte) (s : State) : Result := .next (readOp (eaIndy n s) 5 loadA s)

/-- `LDA $nn,X` (R111). -/
def execLdaZpx (n : Byte) (s : State) : Result := .next (readOp (eaZpx n s) 4 loadA s)

/-- `LDA $nnnn,Y` (R111). -/
def execLdaAbsy (w : Word) (s : State) : Result := .next (readOp (eaAbsy w s) 4 loadA s)

/-- `LDA $nnnn,X` (R111). -/
def execLdaAbsx (w : Word) (s : State) : Result := .next (readOp (eaAbsx w s) 4 loadA s)

/-- `LDX #$nn` (R112). -/
def execLdxImm (n : Byte) (s : State) : Result := .next (immOp n 2 loadX s)

/-- `LDX $nn` (R112). -/
def execLdxZp (n : Byte) (s : State) : Result := .next (readOp (eaZp n) 3 loadX s)

/-- `LDX $nnnn` (R112). -/
def execLdxAbs (w : Word) (s : State) : Result := .next (readOp (eaAbs w) 4 loadX s)

/-- `LDX $nn,Y` (R112). -/
def execLdxZpy (n : Byte) (s : State) : Result := .next (readOp (eaZpy n s) 4 loadX s)

/-- `LDX $nnnn,Y` (R112). -/
def execLdxAbsy (w : Word) (s : State) : Result := .next (readOp (eaAbsy w s) 4 loadX s)

/-- `LDY #$nn` (R113). -/
def execLdyImm (n : Byte) (s : State) : Result := .next (immOp n 2 loadY s)

/-- `LDY $nn` (R113). -/
def execLdyZp (n : Byte) (s : State) : Result := .next (readOp (eaZp n) 3 loadY s)

/-- `LDY $nnnn` (R113). -/
def execLdyAbs (w : Word) (s : State) : Result := .next (readOp (eaAbs w) 4 loadY s)

/-- `LDY $nn,X` (R113). -/
def execLdyZpx (n : Byte) (s : State) : Result := .next (readOp (eaZpx n s) 4 loadY s)

/-- `LDY $nnnn,X` (R113). -/
def execLdyAbsx (w : Word) (s : State) : Result := .next (readOp (eaAbsx w s) 4 loadY s)

/-- `STA ($nn,X)` (R114). -/
def execStaIndx (n : Byte) (s : State) : Result := .next (storeOp (eaIndx n s) 6 s.a s)

/-- `STA $nn` (R114). -/
def execStaZp (n : Byte) (s : State) : Result := .next (storeOp (eaZp n) 3 s.a s)

/-- `STA $nnnn` (R114). -/
def execStaAbs (w : Word) (s : State) : Result := .next (storeOp (eaAbs w) 4 s.a s)

/-- `STA ($nn),Y` (R114). -/
def execStaIndy (n : Byte) (s : State) : Result := .next (storeOp (eaIndy n s) 6 s.a s)

/-- `STA $nn,X` (R114). -/
def execStaZpx (n : Byte) (s : State) : Result := .next (storeOp (eaZpx n s) 4 s.a s)

/-- `STA $nnnn,Y` (R114). -/
def execStaAbsy (w : Word) (s : State) : Result := .next (storeOp (eaAbsy w s) 5 s.a s)

/-- `STA $nnnn,X` (R114). -/
def execStaAbsx (w : Word) (s : State) : Result := .next (storeOp (eaAbsx w s) 5 s.a s)

/-- `STX $nn` (R115). -/
def execStxZp (n : Byte) (s : State) : Result := .next (storeOp (eaZp n) 3 s.x s)

/-- `STX $nnnn` (R115). -/
def execStxAbs (w : Word) (s : State) : Result := .next (storeOp (eaAbs w) 4 s.x s)

/-- `STX $nn,Y` (R115). -/
def execStxZpy (n : Byte) (s : State) : Result := .next (storeOp (eaZpy n s) 4 s.x s)

/-- `STY $nn` (R116). -/
def execStyZp (n : Byte) (s : State) : Result := .next (storeOp (eaZp n) 3 s.y s)

/-- `STY $nnnn` (R116). -/
def execStyAbs (w : Word) (s : State) : Result := .next (storeOp (eaAbs w) 4 s.y s)

/-- `STY $nn,X` (R116). -/
def execStyZpx (n : Byte) (s : State) : Result := .next (storeOp (eaZpx n s) 4 s.y s)

/-- `TAX` (R117). -/
def execTax (s : State) : Result := .next (setCycles 2 (loadX s.a s))

/-- `TAY` (R118). -/
def execTay (s : State) : Result := .next (setCycles 2 (loadY s.a s))

/-- `TXA` (R119). -/
def execTxa (s : State) : Result := .next (setCycles 2 (loadA s.x s))

/-- `TYA` (R120). -/
def execTya (s : State) : Result := .next (setCycles 2 (loadA s.y s))

/-- `TSX` (R121). -/
def execTsx (s : State) : Result := .next (setCycles 2 (loadX s.sp s))

/-- `TXS` (R122). -/
def execTxs (s : State) : Result := .next (setCycles 2 (setSp s.x s))

end Sys2Proof.Machine
end

