-- ==== Sys2Proof/Machine/Stack.lean ====
section
/-! DEFINITION. The meanings of: Stack instructions (42_stack.md).
One definition per slot; PC already holds the address after the instruction (notes/assumptions/3.md). -/

namespace Sys2Proof.Machine

/-- `PHA` (R131). -/
def execPha (s : State) : Result := .next (setCycles 3 (push s.a s))

/-- `PHP` (R132). -/
def execPhp (s : State) : Result := .next (setCycles 3 (push (pushedFlags s.f) s))

/-- `PLA` (R133). -/
def execPla (s : State) : Result :=
  let vs := pull s
  .next (setCycles 4 (loadA vs.1 vs.2))

/-- `PLP` (R134). -/
def execPlp (s : State) : Result :=
  let vs := pull s
  .next (setCycles 4 (setF (pulledFlags s.f vs.1) vs.2))

end Sys2Proof.Machine
end

