-- ==== Sys2Proof/Machine/Undocumented.lean ====
section
/-! DEFINITION. The meanings of: The undocumented combined read-modify-write instructions (47_undocumented_rmw.md).
One definition per slot; PC already holds the address after the instruction (notes/assumptions/3.md). -/

namespace Sys2Proof.Machine

/-- `SLO ($nn,X)` (R211). -/
def execSloIndx (n : Byte) (s : State) : Result := .next (rmwOp (eaIndx n s) 8 doAsl doOra s)

/-- `SLO $nn` (R211). -/
def execSloZp (n : Byte) (s : State) : Result := .next (rmwOp (eaZp n) 5 doAsl doOra s)

/-- `SLO $nnnn` (R211). -/
def execSloAbs (w : Word) (s : State) : Result := .next (rmwOp (eaAbs w) 6 doAsl doOra s)

/-- `SLO ($nn),Y` (R211). -/
def execSloIndy (n : Byte) (s : State) : Result := .next (rmwOp (eaIndy n s) 8 doAsl doOra s)

/-- `SLO $nn,X` (R211). -/
def execSloZpx (n : Byte) (s : State) : Result := .next (rmwOp (eaZpx n s) 6 doAsl doOra s)

/-- `SLO $nnnn,Y` (R211). -/
def execSloAbsy (w : Word) (s : State) : Result := .next (rmwOp (eaAbsy w s) 7 doAsl doOra s)

/-- `SLO $nnnn,X` (R211). -/
def execSloAbsx (w : Word) (s : State) : Result := .next (rmwOp (eaAbsx w s) 7 doAsl doOra s)

/-- `RLA ($nn,X)` (R212). -/
def execRlaIndx (n : Byte) (s : State) : Result := .next (rmwOp (eaIndx n s) 8 doRol doAnd s)

/-- `RLA $nn` (R212). -/
def execRlaZp (n : Byte) (s : State) : Result := .next (rmwOp (eaZp n) 5 doRol doAnd s)

/-- `RLA $nnnn` (R212). -/
def execRlaAbs (w : Word) (s : State) : Result := .next (rmwOp (eaAbs w) 6 doRol doAnd s)

/-- `RLA ($nn),Y` (R212). -/
def execRlaIndy (n : Byte) (s : State) : Result := .next (rmwOp (eaIndy n s) 8 doRol doAnd s)

/-- `RLA $nn,X` (R212). -/
def execRlaZpx (n : Byte) (s : State) : Result := .next (rmwOp (eaZpx n s) 6 doRol doAnd s)

/-- `RLA $nnnn,Y` (R212). -/
def execRlaAbsy (w : Word) (s : State) : Result := .next (rmwOp (eaAbsy w s) 7 doRol doAnd s)

/-- `RLA $nnnn,X` (R212). -/
def execRlaAbsx (w : Word) (s : State) : Result := .next (rmwOp (eaAbsx w s) 7 doRol doAnd s)

/-- `SRE ($nn,X)` (R213). -/
def execSreIndx (n : Byte) (s : State) : Result := .next (rmwOp (eaIndx n s) 8 doLsr doEor s)

/-- `SRE $nn` (R213). -/
def execSreZp (n : Byte) (s : State) : Result := .next (rmwOp (eaZp n) 5 doLsr doEor s)

/-- `SRE $nnnn` (R213). -/
def execSreAbs (w : Word) (s : State) : Result := .next (rmwOp (eaAbs w) 6 doLsr doEor s)

/-- `SRE ($nn),Y` (R213). -/
def execSreIndy (n : Byte) (s : State) : Result := .next (rmwOp (eaIndy n s) 8 doLsr doEor s)

/-- `SRE $nn,X` (R213). -/
def execSreZpx (n : Byte) (s : State) : Result := .next (rmwOp (eaZpx n s) 6 doLsr doEor s)

/-- `SRE $nnnn,Y` (R213). -/
def execSreAbsy (w : Word) (s : State) : Result := .next (rmwOp (eaAbsy w s) 7 doLsr doEor s)

/-- `SRE $nnnn,X` (R213). -/
def execSreAbsx (w : Word) (s : State) : Result := .next (rmwOp (eaAbsx w s) 7 doLsr doEor s)

/-- `RRA ($nn,X)` (R214). -/
def execRraIndx (n : Byte) (s : State) : Result := .next (rmwOp (eaIndx n s) 8 doRor doAdc s)

/-- `RRA $nn` (R214). -/
def execRraZp (n : Byte) (s : State) : Result := .next (rmwOp (eaZp n) 5 doRor doAdc s)

/-- `RRA $nnnn` (R214). -/
def execRraAbs (w : Word) (s : State) : Result := .next (rmwOp (eaAbs w) 6 doRor doAdc s)

/-- `RRA ($nn),Y` (R214). -/
def execRraIndy (n : Byte) (s : State) : Result := .next (rmwOp (eaIndy n s) 8 doRor doAdc s)

/-- `RRA $nn,X` (R214). -/
def execRraZpx (n : Byte) (s : State) : Result := .next (rmwOp (eaZpx n s) 6 doRor doAdc s)

/-- `RRA $nnnn,Y` (R214). -/
def execRraAbsy (w : Word) (s : State) : Result := .next (rmwOp (eaAbsy w s) 7 doRor doAdc s)

/-- `RRA $nnnn,X` (R214). -/
def execRraAbsx (w : Word) (s : State) : Result := .next (rmwOp (eaAbsx w s) 7 doRor doAdc s)

/-- `DCP ($nn,X)` (R215). -/
def execDcpIndx (n : Byte) (s : State) : Result := .next (rmwOp (eaIndx n s) 8 doDec compareA s)

/-- `DCP $nn` (R215). -/
def execDcpZp (n : Byte) (s : State) : Result := .next (rmwOp (eaZp n) 5 doDec compareA s)

/-- `DCP $nnnn` (R215). -/
def execDcpAbs (w : Word) (s : State) : Result := .next (rmwOp (eaAbs w) 6 doDec compareA s)

/-- `DCP ($nn),Y` (R215). -/
def execDcpIndy (n : Byte) (s : State) : Result := .next (rmwOp (eaIndy n s) 8 doDec compareA s)

/-- `DCP $nn,X` (R215). -/
def execDcpZpx (n : Byte) (s : State) : Result := .next (rmwOp (eaZpx n s) 6 doDec compareA s)

/-- `DCP $nnnn,Y` (R215). -/
def execDcpAbsy (w : Word) (s : State) : Result := .next (rmwOp (eaAbsy w s) 7 doDec compareA s)

/-- `DCP $nnnn,X` (R215). -/
def execDcpAbsx (w : Word) (s : State) : Result := .next (rmwOp (eaAbsx w s) 7 doDec compareA s)

/-- `ISC ($nn,X)` (R216). -/
def execIscIndx (n : Byte) (s : State) : Result := .next (rmwOp (eaIndx n s) 8 doInc doSbc s)

/-- `ISC $nn` (R216). -/
def execIscZp (n : Byte) (s : State) : Result := .next (rmwOp (eaZp n) 5 doInc doSbc s)

/-- `ISC $nnnn` (R216). -/
def execIscAbs (w : Word) (s : State) : Result := .next (rmwOp (eaAbs w) 6 doInc doSbc s)

/-- `ISC ($nn),Y` (R216). -/
def execIscIndy (n : Byte) (s : State) : Result := .next (rmwOp (eaIndy n s) 8 doInc doSbc s)

/-- `ISC $nn,X` (R216). -/
def execIscZpx (n : Byte) (s : State) : Result := .next (rmwOp (eaZpx n s) 6 doInc doSbc s)

/-- `ISC $nnnn,Y` (R216). -/
def execIscAbsy (w : Word) (s : State) : Result := .next (rmwOp (eaAbsy w s) 7 doInc doSbc s)

/-- `ISC $nnnn,X` (R216). -/
def execIscAbsx (w : Word) (s : State) : Result := .next (rmwOp (eaAbsx w s) 7 doInc doSbc s)

end Sys2Proof.Machine
end

