-- ==== Sys2Proof/Machine/Dispatch.lean ====
section
/-! DEFINITION. Dispatch: one arm per constructor of Instr, each one direct call of its meaning. -/

namespace Sys2Proof.Machine

def exec (i : Instr) (s : State) : Host.Outcome State Fault Refusal :=
  match i with
  | .brk => Sys2Proof.Machine.execBrk s
  | .oraIndx n => Sys2Proof.Machine.execOraIndx n s
  | .sloIndx n => Sys2Proof.Machine.execSloIndx n s
  | .oraZp n => Sys2Proof.Machine.execOraZp n s
  | .aslZp n => Sys2Proof.Machine.execAslZp n s
  | .sloZp n => Sys2Proof.Machine.execSloZp n s
  | .php => Sys2Proof.Machine.execPhp s
  | .oraImm n => Sys2Proof.Machine.execOraImm n s
  | .aslAcc => Sys2Proof.Machine.execAslAcc s
  | .oraAbs w => Sys2Proof.Machine.execOraAbs w s
  | .aslAbs w => Sys2Proof.Machine.execAslAbs w s
  | .sloAbs w => Sys2Proof.Machine.execSloAbs w s
  | .bpl off => Sys2Proof.Machine.execBpl off s
  | .oraIndy n => Sys2Proof.Machine.execOraIndy n s
  | .sloIndy n => Sys2Proof.Machine.execSloIndy n s
  | .oraZpx n => Sys2Proof.Machine.execOraZpx n s
  | .aslZpx n => Sys2Proof.Machine.execAslZpx n s
  | .sloZpx n => Sys2Proof.Machine.execSloZpx n s
  | .clc => Sys2Proof.Machine.execClc s
  | .oraAbsy w => Sys2Proof.Machine.execOraAbsy w s
  | .sloAbsy w => Sys2Proof.Machine.execSloAbsy w s
  | .oraAbsx w => Sys2Proof.Machine.execOraAbsx w s
  | .aslAbsx w => Sys2Proof.Machine.execAslAbsx w s
  | .sloAbsx w => Sys2Proof.Machine.execSloAbsx w s
  | .jsr w => Sys2Proof.Machine.execJsr w s
  | .andIndx n => Sys2Proof.Machine.execAndIndx n s
  | .rlaIndx n => Sys2Proof.Machine.execRlaIndx n s
  | .bitZp n => Sys2Proof.Machine.execBitZp n s
  | .andZp n => Sys2Proof.Machine.execAndZp n s
  | .rolZp n => Sys2Proof.Machine.execRolZp n s
  | .rlaZp n => Sys2Proof.Machine.execRlaZp n s
  | .plp => Sys2Proof.Machine.execPlp s
  | .andImm n => Sys2Proof.Machine.execAndImm n s
  | .rolAcc => Sys2Proof.Machine.execRolAcc s
  | .bitAbs w => Sys2Proof.Machine.execBitAbs w s
  | .andAbs w => Sys2Proof.Machine.execAndAbs w s
  | .rolAbs w => Sys2Proof.Machine.execRolAbs w s
  | .rlaAbs w => Sys2Proof.Machine.execRlaAbs w s
  | .bmi off => Sys2Proof.Machine.execBmi off s
  | .andIndy n => Sys2Proof.Machine.execAndIndy n s
  | .rlaIndy n => Sys2Proof.Machine.execRlaIndy n s
  | .andZpx n => Sys2Proof.Machine.execAndZpx n s
  | .rolZpx n => Sys2Proof.Machine.execRolZpx n s
  | .rlaZpx n => Sys2Proof.Machine.execRlaZpx n s
  | .sec => Sys2Proof.Machine.execSec s
  | .andAbsy w => Sys2Proof.Machine.execAndAbsy w s
  | .rlaAbsy w => Sys2Proof.Machine.execRlaAbsy w s
  | .andAbsx w => Sys2Proof.Machine.execAndAbsx w s
  | .rolAbsx w => Sys2Proof.Machine.execRolAbsx w s
  | .rlaAbsx w => Sys2Proof.Machine.execRlaAbsx w s
  | .rti => Sys2Proof.Machine.execRti s
  | .eorIndx n => Sys2Proof.Machine.execEorIndx n s
  | .sreIndx n => Sys2Proof.Machine.execSreIndx n s
  | .eorZp n => Sys2Proof.Machine.execEorZp n s
  | .lsrZp n => Sys2Proof.Machine.execLsrZp n s
  | .sreZp n => Sys2Proof.Machine.execSreZp n s
  | .pha => Sys2Proof.Machine.execPha s
  | .eorImm n => Sys2Proof.Machine.execEorImm n s
  | .lsrAcc => Sys2Proof.Machine.execLsrAcc s
  | .jmpAbs w => Sys2Proof.Machine.execJmpAbs w s
  | .eorAbs w => Sys2Proof.Machine.execEorAbs w s
  | .lsrAbs w => Sys2Proof.Machine.execLsrAbs w s
  | .sreAbs w => Sys2Proof.Machine.execSreAbs w s
  | .bvc off => Sys2Proof.Machine.execBvc off s
  | .eorIndy n => Sys2Proof.Machine.execEorIndy n s
  | .sreIndy n => Sys2Proof.Machine.execSreIndy n s
  | .eorZpx n => Sys2Proof.Machine.execEorZpx n s
  | .lsrZpx n => Sys2Proof.Machine.execLsrZpx n s
  | .sreZpx n => Sys2Proof.Machine.execSreZpx n s
  | .cli => Sys2Proof.Machine.execCli s
  | .eorAbsy w => Sys2Proof.Machine.execEorAbsy w s
  | .sreAbsy w => Sys2Proof.Machine.execSreAbsy w s
  | .eorAbsx w => Sys2Proof.Machine.execEorAbsx w s
  | .lsrAbsx w => Sys2Proof.Machine.execLsrAbsx w s
  | .sreAbsx w => Sys2Proof.Machine.execSreAbsx w s
  | .rts => Sys2Proof.Machine.execRts s
  | .adcIndx n => Sys2Proof.Machine.execAdcIndx n s
  | .rraIndx n => Sys2Proof.Machine.execRraIndx n s
  | .adcZp n => Sys2Proof.Machine.execAdcZp n s
  | .rorZp n => Sys2Proof.Machine.execRorZp n s
  | .rraZp n => Sys2Proof.Machine.execRraZp n s
  | .pla => Sys2Proof.Machine.execPla s
  | .adcImm n => Sys2Proof.Machine.execAdcImm n s
  | .rorAcc => Sys2Proof.Machine.execRorAcc s
  | .jmpInd w => Sys2Proof.Machine.execJmpInd w s
  | .adcAbs w => Sys2Proof.Machine.execAdcAbs w s
  | .rorAbs w => Sys2Proof.Machine.execRorAbs w s
  | .rraAbs w => Sys2Proof.Machine.execRraAbs w s
  | .bvs off => Sys2Proof.Machine.execBvs off s
  | .adcIndy n => Sys2Proof.Machine.execAdcIndy n s
  | .rraIndy n => Sys2Proof.Machine.execRraIndy n s
  | .adcZpx n => Sys2Proof.Machine.execAdcZpx n s
  | .rorZpx n => Sys2Proof.Machine.execRorZpx n s
  | .rraZpx n => Sys2Proof.Machine.execRraZpx n s
  | .sei => Sys2Proof.Machine.execSei s
  | .adcAbsy w => Sys2Proof.Machine.execAdcAbsy w s
  | .rraAbsy w => Sys2Proof.Machine.execRraAbsy w s
  | .adcAbsx w => Sys2Proof.Machine.execAdcAbsx w s
  | .rorAbsx w => Sys2Proof.Machine.execRorAbsx w s
  | .rraAbsx w => Sys2Proof.Machine.execRraAbsx w s
  | .staIndx n => Sys2Proof.Machine.execStaIndx n s
  | .styZp n => Sys2Proof.Machine.execStyZp n s
  | .staZp n => Sys2Proof.Machine.execStaZp n s
  | .stxZp n => Sys2Proof.Machine.execStxZp n s
  | .dey => Sys2Proof.Machine.execDey s
  | .txa => Sys2Proof.Machine.execTxa s
  | .styAbs w => Sys2Proof.Machine.execStyAbs w s
  | .staAbs w => Sys2Proof.Machine.execStaAbs w s
  | .stxAbs w => Sys2Proof.Machine.execStxAbs w s
  | .bcc off => Sys2Proof.Machine.execBcc off s
  | .staIndy n => Sys2Proof.Machine.execStaIndy n s
  | .styZpx n => Sys2Proof.Machine.execStyZpx n s
  | .staZpx n => Sys2Proof.Machine.execStaZpx n s
  | .stxZpy n => Sys2Proof.Machine.execStxZpy n s
  | .tya => Sys2Proof.Machine.execTya s
  | .staAbsy w => Sys2Proof.Machine.execStaAbsy w s
  | .txs => Sys2Proof.Machine.execTxs s
  | .staAbsx w => Sys2Proof.Machine.execStaAbsx w s
  | .ldyImm n => Sys2Proof.Machine.execLdyImm n s
  | .ldaIndx n => Sys2Proof.Machine.execLdaIndx n s
  | .ldxImm n => Sys2Proof.Machine.execLdxImm n s
  | .ldyZp n => Sys2Proof.Machine.execLdyZp n s
  | .ldaZp n => Sys2Proof.Machine.execLdaZp n s
  | .ldxZp n => Sys2Proof.Machine.execLdxZp n s
  | .tay => Sys2Proof.Machine.execTay s
  | .ldaImm n => Sys2Proof.Machine.execLdaImm n s
  | .tax => Sys2Proof.Machine.execTax s
  | .ldyAbs w => Sys2Proof.Machine.execLdyAbs w s
  | .ldaAbs w => Sys2Proof.Machine.execLdaAbs w s
  | .ldxAbs w => Sys2Proof.Machine.execLdxAbs w s
  | .bcs off => Sys2Proof.Machine.execBcs off s
  | .ldaIndy n => Sys2Proof.Machine.execLdaIndy n s
  | .ldyZpx n => Sys2Proof.Machine.execLdyZpx n s
  | .ldaZpx n => Sys2Proof.Machine.execLdaZpx n s
  | .ldxZpy n => Sys2Proof.Machine.execLdxZpy n s
  | .clv => Sys2Proof.Machine.execClv s
  | .ldaAbsy w => Sys2Proof.Machine.execLdaAbsy w s
  | .tsx => Sys2Proof.Machine.execTsx s
  | .ldyAbsx w => Sys2Proof.Machine.execLdyAbsx w s
  | .ldaAbsx w => Sys2Proof.Machine.execLdaAbsx w s
  | .ldxAbsy w => Sys2Proof.Machine.execLdxAbsy w s
  | .cpyImm n => Sys2Proof.Machine.execCpyImm n s
  | .cmpIndx n => Sys2Proof.Machine.execCmpIndx n s
  | .dcpIndx n => Sys2Proof.Machine.execDcpIndx n s
  | .cpyZp n => Sys2Proof.Machine.execCpyZp n s
  | .cmpZp n => Sys2Proof.Machine.execCmpZp n s
  | .decZp n => Sys2Proof.Machine.execDecZp n s
  | .dcpZp n => Sys2Proof.Machine.execDcpZp n s
  | .iny => Sys2Proof.Machine.execIny s
  | .cmpImm n => Sys2Proof.Machine.execCmpImm n s
  | .dex => Sys2Proof.Machine.execDex s
  | .cpyAbs w => Sys2Proof.Machine.execCpyAbs w s
  | .cmpAbs w => Sys2Proof.Machine.execCmpAbs w s
  | .decAbs w => Sys2Proof.Machine.execDecAbs w s
  | .dcpAbs w => Sys2Proof.Machine.execDcpAbs w s
  | .bne off => Sys2Proof.Machine.execBne off s
  | .cmpIndy n => Sys2Proof.Machine.execCmpIndy n s
  | .dcpIndy n => Sys2Proof.Machine.execDcpIndy n s
  | .cmpZpx n => Sys2Proof.Machine.execCmpZpx n s
  | .decZpx n => Sys2Proof.Machine.execDecZpx n s
  | .dcpZpx n => Sys2Proof.Machine.execDcpZpx n s
  | .cld => Sys2Proof.Machine.execCld s
  | .cmpAbsy w => Sys2Proof.Machine.execCmpAbsy w s
  | .dcpAbsy w => Sys2Proof.Machine.execDcpAbsy w s
  | .cmpAbsx w => Sys2Proof.Machine.execCmpAbsx w s
  | .decAbsx w => Sys2Proof.Machine.execDecAbsx w s
  | .dcpAbsx w => Sys2Proof.Machine.execDcpAbsx w s
  | .cpxImm n => Sys2Proof.Machine.execCpxImm n s
  | .sbcIndx n => Sys2Proof.Machine.execSbcIndx n s
  | .iscIndx n => Sys2Proof.Machine.execIscIndx n s
  | .cpxZp n => Sys2Proof.Machine.execCpxZp n s
  | .sbcZp n => Sys2Proof.Machine.execSbcZp n s
  | .incZp n => Sys2Proof.Machine.execIncZp n s
  | .iscZp n => Sys2Proof.Machine.execIscZp n s
  | .inx => Sys2Proof.Machine.execInx s
  | .sbcImm n => Sys2Proof.Machine.execSbcImm n s
  | .nop => Sys2Proof.Machine.execNop s
  | .cpxAbs w => Sys2Proof.Machine.execCpxAbs w s
  | .sbcAbs w => Sys2Proof.Machine.execSbcAbs w s
  | .incAbs w => Sys2Proof.Machine.execIncAbs w s
  | .iscAbs w => Sys2Proof.Machine.execIscAbs w s
  | .beq off => Sys2Proof.Machine.execBeq off s
  | .sbcIndy n => Sys2Proof.Machine.execSbcIndy n s
  | .iscIndy n => Sys2Proof.Machine.execIscIndy n s
  | .sbcZpx n => Sys2Proof.Machine.execSbcZpx n s
  | .incZpx n => Sys2Proof.Machine.execIncZpx n s
  | .iscZpx n => Sys2Proof.Machine.execIscZpx n s
  | .sed => Sys2Proof.Machine.execSed s
  | .sbcAbsy w => Sys2Proof.Machine.execSbcAbsy w s
  | .iscAbsy w => Sys2Proof.Machine.execIscAbsy w s
  | .sbcAbsx w => Sys2Proof.Machine.execSbcAbsx w s
  | .incAbsx w => Sys2Proof.Machine.execIncAbsx w s
  | .iscAbsx w => Sys2Proof.Machine.execIscAbsx w s

end Sys2Proof.Machine
end

