-- ==== Sys2Proof/Machine/Tick.lean ====
section
/-! DEFINITION. One clock tick of the core: fetching, dispatching, waiting and halting (10_state.md R31). -/

namespace Sys2Proof.Machine

/-- The instruction of a bound slot, its operand bytes fetched from PC on (30_encoding.md R73, R66 of
20_memory.md). -/
def fetchOperands (form : SlotForm) (s : State) : Instr × State :=
  match form with
  | .op i => (i, s)
  | .opByte make =>
    let n := fetchByte s
    (make n.1, n.2)
  | .opWord make =>
    let l := fetchByte s
    let h := fetchByte l.2
    (make (wordOf h.1 l.1), h.2)

/-- The tick of a core that is ready to fetch: fetch the opcode at PC and run its slot's rule, or apply the
policy when the slot is unset (10_state.md R31). -/
def dispatchTick (policy : IllegalPolicy) (s : State) : Result :=
  let op := fetchByte s
  match dispatch op.1 with
  | none => .next (unsetSlot policy s.pc op.1 op.2)
  | some t =>
    let is := fetchOperands t.form op.2
    exec is.1 is.2

/-- One `step()` under a policy for unset slots: in this order a faulted core does nothing, an instruction under
way uses up a tick, a halted core does nothing, a ready core dispatches (10_state.md R31, 60_exceptions.md
R277). -/
def tick (policy : IllegalPolicy) (s : State) : Result :=
  if s.faultState.isSome then .next s
  else if 0 < s.remaining then .next { s with remaining := s.remaining - 1 }
  else if flag .B s then .next s
  else dispatchTick policy s

/-! ## Placing an instruction where the next tick fetches it -/

/-- RAM with `bytes` stored from `addr` on, modulo 2^16. -/
def placeBytes : List Byte → Word → Memory → Memory
  | [], _, m => m
  | b :: bs, addr, m => placeBytes bs (addr + 1#16) (Memory.write m addr.toNat b)

/-- A RAM region over the whole address space. -/
def wholeRam : Region := ⟨"ram", .ram, 0x0000, 0xFFFF⟩

/-- Is an address served by RAM. -/
def inRam (s : State) (addr : Word) : Bool :=
  match regionAt s addr with
  | some r => r.kind == .ram
  | none => false

/-- `s` ready to fetch, with `bytes` in RAM at PC: no fault, no tick outstanding, no break condition. Where PC or one
of the two addresses after it is not served by RAM, a RAM region is put before the others so that the bytes can be
fetched (notes/assumptions/9.md). -/
def placeInstr (bytes : List Byte) (s : State) : State :=
  { s with
    f := putFlag s.f .B false
    remaining := 0
    regions :=
      if inRam s s.pc && inRam s (s.pc + 1#16) && inRam s (s.pc + 2#16) then s.regions
      else wholeRam :: s.regions
    mem := placeBytes bytes s.pc s.mem
    faultState := none }

end Sys2Proof.Machine
end

