-- ==== Sys2Proof/Machine/Step.lean ====
section
/-! DEFINITION. The step of the machine, one clock tick, and the placing of an instruction where it fetches. -/

namespace Sys2Proof.Machine

/-- One `step()` of the core (10_state.md R31) with the policy `P_ILLEGAL_POLICY`. -/
def step (s : State) : Host.Outcome State Fault Refusal := tick Config.illegalPolicy s

/-- `s` with the instruction of a table word stored at PC and the core ready to fetch it (notes/assumptions/8.md,
notes/assumptions/9.md). -/
def State.withFetchWord (s : State) (nbits w : Nat) : State := placeInstr (tableBytes nbits w) s

end Sys2Proof.Machine
end

