-- ==== Sys2Proof/Machine/VoiceBank.lean ====
section
/-! DEFINITION. What the voice bank's latches say (50_voice_bank.md R221 to R228). The bank's one write is `poke`
(Sys2Proof/Machine/Ops.lean). -/

namespace Sys2Proof.Machine

/-- The latch index of offset `o` of voice `v`, `7v + o` (50_voice_bank.md R221, R222). -/
def latchIndex (v : Voice) (o : Fin 7) : Nat := 7 * v.val + o.val

/-- The latch at offset `o` of voice `v` (50_voice_bank.md R222). -/
def latch (s : State) (v : Voice) (o : Fin 7) : Byte := s.reg[7 * v.val + o.val]'(by omega)

/-- `freq(v)`, 16 bits (50_voice_bank.md R223). -/
def freq (s : State) (v : Voice) : Word := wordOf (latch s v 1) (latch s v 0)

/-- `pw(v)`, 12 bits, bits 7:4 of the high byte ignored (50_voice_bank.md R224). -/
def pulseWidth (s : State) (v : Voice) : BitVec 12 := (latch s v 3).setWidth 4 ++ latch s v 2

/-- `ctl(v)`, the control byte (50_voice_bank.md R225). -/
def ctl (s : State) (v : Voice) : Byte := latch s v 4

/-- `gate(v)`, bit 0 of the control byte (50_voice_bank.md R225). -/
def gate (s : State) (v : Voice) : Bool := (ctl s v).getLsbD 0

/-- Bit 1 of the control byte, latched and read by no rule (50_voice_bank.md R225). -/
def syncBit (s : State) (v : Voice) : Bool := (ctl s v).getLsbD 1

/-- Bit 2 of the control byte, latched and read by no rule (50_voice_bank.md R225). -/
def ringModBit (s : State) (v : Voice) : Bool := (ctl s v).getLsbD 2

/-- Bit 3 of the control byte, latched and read by no rule (50_voice_bank.md R225). -/
def testBit (s : State) (v : Voice) : Bool := (ctl s v).getLsbD 3

/-- The high nibble of a byte, bits 7:4. -/
def highNibble (b : Byte) : Nibble := (b >>> 4).setWidth 4

/-- The low nibble of a byte, bits 3:0. -/
def lowNibble (b : Byte) : Nibble := b.setWidth 4

/-- The waveform select bits, bits 7:4 of the control byte (50_voice_bank.md R225). -/
def waveBits (s : State) (v : Voice) : Nibble := highNibble (ctl s v)

/-- `attack_nib(v)` (50_voice_bank.md R226). -/
def attackNib (s : State) (v : Voice) : Nibble := highNibble (latch s v 5)

/-- `decay_nib(v)` (50_voice_bank.md R226). -/
def decayNib (s : State) (v : Voice) : Nibble := lowNibble (latch s v 5)

/-- `sustain_nib(v)`, read by no rule (50_voice_bank.md R227). -/
def sustainNib (s : State) (v : Voice) : Nibble := highNibble (latch s v 6)

/-- `release_nib(v)` (50_voice_bank.md R227). -/
def releaseNib (s : State) (v : Voice) : Nibble := lowNibble (latch s v 6)

/-- The shared filter and volume registers 21 to 24, latched and read by no rule (50_voice_bank.md R228). -/
def sharedLatch (s : State) (k : Fin 4) : Byte := s.reg[21 + k.val]'(by omega)

end Sys2Proof.Machine
end

