-- ==== Sys2Proof/Machine/Reconstructor.lean ====
section
/-! DEFINITION. The frame-synchronised note reconstructor (51_note_reconstructor.md R240 to R255). -/

namespace Sys2Proof.Machine

/-! ## Tables and decoding -/

/-- `ATTACK_TABLE` in milliseconds (51_note_reconstructor.md R250). -/
def attackMillis : Vector Nat 16 :=
  #v[2, 8, 16, 24, 38, 56, 68, 80, 100, 250, 500, 800, 1000, 3000, 5000, 8000]

/-- `DECAY_RELEASE_TABLE` in milliseconds (51_note_reconstructor.md R251). -/
def decayReleaseMillis : Vector Nat 16 :=
  #v[6, 24, 48, 72, 114, 168, 204, 240, 300, 750, 1500, 2400, 3000, 9000, 15000, 24000]

/-- A table entry in seconds, the exact rational its decimal denotes (92_eei_decisions.md D42). -/
def seconds (millis : Nat) : Rat := (millis : Rat) / 1000

/-- `ATTACK_TABLE[nib]` in seconds (51_note_reconstructor.md R250). -/
def attackTime (nib : Nibble) : Rat := seconds (attackMillis.get nib.toFin)

/-- `DECAY_RELEASE_TABLE[nib]` in seconds (51_note_reconstructor.md R251). -/
def decayReleaseTime (nib : Nibble) : Rat := seconds (decayReleaseMillis.get nib.toFin)

/-- The waveform the select bits name, or none when no bit or several bits are set
(51_note_reconstructor.md R246). -/
def knownWaveform (bits : Nibble) : Option Waveform :=
  if bits = 0b0001#4 then some .triangle
  else if bits = 0b0010#4 then some .sawtooth
  else if bits = 0b0100#4 then some .pulse
  else if bits = 0b1000#4 then some .noise
  else none

/-- The waveform recorded: noise for unrecognised bits (51_note_reconstructor.md R246). -/
def waveformOf (bits : Nibble) : Waveform := (knownWaveform bits).getD .noise

/-- The warnings of one waveform decode: one for unrecognised bits, none otherwise
(51_note_reconstructor.md R246). -/
def waveformWarnings (v : Voice) (f : Nat) (bits : Nibble) : List Warning :=
  match knownWaveform bits with
  | some _ => []
  | none => [⟨v, f, bits⟩]

/-- `Pitch(raw)` for a clock of `clockHz` Hz: the integer n with `2^(2n - 139) <= r^24 < 2^(2n - 137)` for
`r = raw * clockHz / (440 * 2^24)` (51_note_reconstructor.md R247). With k the floor of log2 (r^24) that is
`(k + 139) div 2`; r^24 is scaled by 2^792 = 2^216 * (2^24)^24 so that its floor has the same logarithm. Raw 0 has
no pitch (R243). -/
def pitch (clockHz raw : Nat) : Option Int :=
  if raw = 0 then none
  else some ((((raw * clockHz * 512) ^ 24 / 440 ^ 24).log2 - 792 + 139 : Int) / 2)

/-! ## The lifecycle of a note -/

/-- The time from frame `start` to frame `f` in exact seconds (51_note_reconstructor.md R248, R249). -/
def elapsed (start f : Nat) : Rat := ((f : Rat) - (start : Rat)) / (Config.fps : Rat)

/-- The open note of a voice: the last record if it is not stopped (51_note_reconstructor.md R241). -/
def openNote (ns : List Note) : Option Note :=
  match ns.getLast? with
  | some o => if o.status = .stopped then none else some o
  | none => none

/-- The release transition's clipping for an elapsed time `e` (51_note_reconstructor.md R248). -/
def clipEnvelope (e : Rat) (o : Note) : Note :=
  if e < o.attack then { o with attack := e, decay := 0, sustainLen := 0 }
  else if e < o.attack + o.decay then { o with decay := e - o.attack, sustainLen := 0 }
  else { o with sustainLen := e - o.attack - o.decay }

/-- `Release(o, f)` (51_note_reconstructor.md R248). -/
def releaseNote (f : Nat) (o : Note) : Note :=
  { clipEnvelope (elapsed o.startFrame f) o with status := .released f }

/-- The release length clipped to the time `e` since the release began (51_note_reconstructor.md R249). -/
def clipRelease (e : Rat) (o : Note) : Note :=
  { o with release := if e < o.release then e else o.release, status := .stopped }

/-- `Stop(o, f)`; a stopped record stays as it is (51_note_reconstructor.md R249, R254). -/
def stopNote (f : Nat) (o : Note) : Note :=
  match o.status with
  | .released rf => clipRelease (elapsed rf f) o
  | .sounding => { releaseNote f o with release := 0, status := .stopped }
  | .stopped => o

/-- The new record of step 1a. Its waveform and envelope are written by the refresh of the same frame
(51_note_reconstructor.md R242; notes/assumptions/13.md). -/
def newNote (f : Nat) (p : Int) : Note where
  startFrame := f
  pitch := p
  waveform := .noise
  attack := 0
  decay := 0
  sustainLen := 0
  release := 0
  bends := []
  status := .sounding
  curPitch := p

/-- Steps 1c and 1d: the open note takes its waveform and envelope from the latches, and a changed pitch is a bend
event (51_note_reconstructor.md R242, R244, R245). -/
def refreshNote (s : State) (v : Voice) (p : Int) (o : Note) : Note :=
  { o with
    waveform := waveformOf (waveBits s v)
    attack := attackTime (attackNib s v)
    decay := decayReleaseTime (decayNib s v)
    release := decayReleaseTime (releaseNib s v)
    bends := if p ≠ o.curPitch then o.bends ++ [(s.frame, p)] else o.bends
    curPitch := p }

/-- Steps 1b and 1a: the records before the note that sounds now, and that note. A sounding note goes on; a released
one is stopped and a new one starts; with no open note a new one starts (51_note_reconstructor.md R242). -/
def soundingNote (f : Nat) (p : Int) (ns : List Note) : List Note × Note :=
  match openNote ns with
  | some o =>
    match o.status with
    | .released _ => (ns.dropLast ++ [stopNote f o], newNote f p)
    | _ => (ns.dropLast, o)
  | none => (ns, newNote f p)

/-- Step 2: a sounding note is released, a released one is left alone (51_note_reconstructor.md R242). -/
def releaseOpen (f : Nat) (ns : List Note) : List Note :=
  match openNote ns with
  | some o => if o.status = .sounding then ns.dropLast ++ [releaseNote f o] else ns
  | none => ns

/-- The note list of voice `v` replaced. -/
def setNotes (v : Voice) (ns : List Note) (s : State) : State := { s with notes := s.notes.set v ns }

/-- The note list of voice `v`. -/
def notesOf (s : State) (v : Voice) : List Note := s.notes[v.val]

/-- The step of a voice whose gate is set and whose frequency has pitch `p` (51_note_reconstructor.md R242,
steps 1a to 1d). -/
def gatedFrame (v : Voice) (p : Int) (s : State) : State :=
  let parts := soundingNote s.frame p (notesOf s v)
  { setNotes v (parts.1 ++ [refreshNote s v p parts.2]) s with
    warnings := s.warnings ++ waveformWarnings v s.frame (waveBits s v) }

/-- `finish_frame(v, f)` with f the frame clock (51_note_reconstructor.md R242). A gate held with frequency 0 does
nothing. -/
def finishVoice (v : Voice) (s : State) : State :=
  if gate s v then
    match pitch Config.clockHz (freq s v).toNat with
    | some p => gatedFrame v p s
    | none => s
  else setNotes v (releaseOpen s.frame (notesOf s v)) s

/-- `finish_frame()`: the voices 0, 1, 2 in order, the frame clock not advanced (51_note_reconstructor.md R240). -/
def finishFrame (s : State) : State := finishVoice 2 (finishVoice 1 (finishVoice 0 s))

/-- The list with its open note, if any, stopped at frame `f` (51_note_reconstructor.md R252). -/
def stopOpen (f : Nat) (ns : List Note) : List Note :=
  match openNote ns with
  | some o => ns.dropLast ++ [stopNote f o]
  | none => ns

/-- `Flush()`: the open note of each voice is stopped at the frame clock's value (51_note_reconstructor.md R252). -/
def flush (s : State) : State := { s with notes := s.notes.map (stopOpen s.frame) }

end Sys2Proof.Machine
end

