-- ==== Sys2Proof/Machine/Driver.lean ====
section
/-! DEFINITION. The host's operations on the block and its driver loop (70_reset_and_hazards.md R290 to R299). They
act between ticks; the core's step is one of them. -/

namespace Sys2Proof.Machine

/-- `attach(name, start, end)`: the region goes to the end of the list (20_memory.md R51). Outside
`start <= end <= $FFFF`, of which the spec does not speak, it is refused (notes/assumptions/10.md). -/
def attach (r : Region) (s : State) : Result :=
  if r.wf then .next { s with regions := s.regions ++ [r] } else .refused .regionOutOfSpace

/-- The handle `attach` returns: the region's place in the list (20_memory.md R51; notes/assumptions/10.md). -/
def attachHandle (s : State) : Nat := s.regions.length

/-- The copy loop of `load`: each byte through MemWrite (70_reset_and_hazards.md R292). -/
def copyBytes : List Byte → Nat → State → State
  | [], _, s => s
  | b :: bs, addr, s => copyBytes bs (addr + 1) (memWrite (BitVec.ofNat 16 addr) b s)

/-- `load(bytes, base)`; `loadBase` is the open parameter `P_LOAD_BASE`. The checks come first, so a failed load
writes nothing (70_reset_and_hazards.md R292, 60_exceptions.md R274). -/
def load (loadBase : Nat) (bytes : List Byte) (base : Nat) (s : State) : State :=
  if ¬ imageFits bytes.length base then raiseFault .loadOverflow 0x0000#16 0x00#8 s
  else if base ≠ loadBase then raiseFault .unsupportedLoadAddress 0x0000#16 0x00#8 s
  else copyBytes bytes base s

/-- `Call(addr, a)`: A for init, the return address pushed high byte first, PC, and the break condition cleared
(70_reset_and_hazards.md R293 to R295). -/
def call (addr : Word) (a : Option Byte) (s : State) : State :=
  let s1 := match a with
    | some v => setA v s
    | none => s
  let ret := Config.retAddr - 1#16
  setFlag .B false (setPc addr (push (lo ret) (push (hi ret) s1)))

/-- `frame <- frame + 1` (70_reset_and_hazards.md R297). -/
def advanceFrame (s : State) : State := { s with frame := s.frame + 1 }

/-- `n` ticks (70_reset_and_hazards.md R297). -/
def ticks : Nat → State → Result
  | 0, s => .next s
  | n + 1, s =>
    match step s with
    | .next t => ticks n t
    | .fault r => .fault r
    | .refused r => .refused r

/-- The ends of a run (70_reset_and_hazards.md R299). -/
inductive RunEnd where
  | completed (s : State)
  | faulted (s : State)
  | cancelled (s : State)
  deriving Repr, DecidableEq

/-- The play call at the start of frame `k`: only for k > 0 and when the previous routine has returned
(70_reset_and_hazards.md R297). -/
def playCall (play : Word) (k : Nat) (s : State) : State :=
  if 0 < k ∧ flag .B s then call play none s else s

/-- The frames `k`, `k + 1`, ... of a run, `n` of them, of `cycles` ticks each; `cancelAfter = some m` stops the run
after frame m (70_reset_and_hazards.md R297, R299; notes/assumptions/14.md). -/
def frames (cycles : Nat) (play : Word) (cancelAfter : Option Nat) :
    Nat → Nat → State → Host.Outcome RunEnd Fault Refusal
  | 0, _, s => .next (.completed (flush s))
  | n + 1, k, s =>
    if s.faultState.isSome then .next (.faulted s)
    else
      match ticks cycles (playCall play k s) with
      | .fault r => .fault r
      | .refused r => .refused r
      | .next t =>
        if t.faultState.isSome then .next (.faulted t)
        else
          let u := advanceFrame (finishFrame t)
          if cancelAfter = some k then .next (.cancelled (flush u))
          else frames cycles play cancelAfter n (k + 1) u

/-- `Run(image, init_address, play_address, N)` with the open parameters `P_LOAD_BASE` and `P_FRAMES`
(70_reset_and_hazards.md R297). -/
def run (loadBase : Nat) (image : List Byte) (init play : Word) (nFrames : Nat) (cancelAfter : Option Nat) :
    Host.Outcome RunEnd Fault Refusal :=
  let s := load loadBase image loadBase State.reset
  if s.faultState.isSome then .next (.faulted s)
  else frames Config.cyclesPerFrame play cancelAfter nFrames 0 (call init (some Config.song) s)

/-- A record of the output: the fields of a note record but its status and current pitch
(51_note_reconstructor.md R253). -/
structure OutputNote where
  startFrame : Nat
  pitch      : Int
  waveform   : Waveform
  attack     : Rat
  decay      : Rat
  sustainLen : Rat
  release    : Rat
  bends      : List (Nat × Int)
  deriving Repr, DecidableEq

/-- A note record as the output has it (51_note_reconstructor.md R253). -/
def outputNote (o : Note) : OutputNote where
  startFrame := o.startFrame
  pitch := o.pitch
  waveform := o.waveform
  attack := o.attack
  decay := o.decay
  sustainLen := o.sustainLen
  release := o.release
  bends := o.bends

/-- The note lists of a state as the output has them, voice by voice, each in its order
(51_note_reconstructor.md R253). -/
def outputNotes (s : State) : Vector (List OutputNote) 3 := s.notes.map (List.map outputNote)

/-- What the host reads at the end of a run: the note lists and the warning log, or the fault record of a faulted run,
whose notes are no output (70_reset_and_hazards.md R296, R299; 51_note_reconstructor.md R253). -/
inductive Output where
  | music (notes : Vector (List OutputNote) 3) (warnings : List Warning)
  | fault (record : Option FaultRecord)
  deriving Repr, DecidableEq

/-- The output of a run (70_reset_and_hazards.md R299). -/
def outputOf : RunEnd → Output
  | .completed s => .music (outputNotes s) s.warnings
  | .cancelled s => .music (outputNotes s) s.warnings
  | .faulted s => .fault s.faultState

end Sys2Proof.Machine
end

