-- ==== Sys2Proof/Safety.lean ====
section
/-! DEFINITION. The conditions claims speak of: the core's four conditions at a tick, and what holds of every state
a run passes through. -/

namespace Sys2Proof.Machine

/-- The core is faulted: it takes no further instruction until reset (60_exceptions.md R270). -/
def Faulted (s : State) : Prop := s.faultState ≠ none

/-- The core is inside an instruction (10_state.md R31). -/
def MidInstruction (s : State) : Prop := s.faultState = none ∧ 0 < s.remaining

/-- The core is halted by the break condition (10_state.md R28, 60_exceptions.md R285). -/
def Halted (s : State) : Prop := s.faultState = none ∧ s.remaining = 0 ∧ flag .B s = true

/-- The core dispatches at the next tick (10_state.md R31). -/
def Ready (s : State) : Prop := s.faultState = none ∧ s.remaining = 0 ∧ flag .B s = false

/-- What every state between ticks meets: RAM in canonical form, `remaining` 0 to 7 (60_exceptions.md R281), the
unused flag 1 (10_state.md R29), every attached region as 20_memory.md R51 asks. -/
structure CoreInv (s : State) : Prop where
  memory : Memory.wf s.mem
  waiting : s.remaining ≤ 7
  unusedFlag : flag .U s = true
  regions : ∀ r ∈ s.regions, r.wf = true

/-- The pitch a note record holds last: that of its last bend event, or its creation pitch
(51_note_reconstructor.md R245). -/
def lastPitch (o : Note) : Int := ((o.bends.map Prod.snd).getLast?).getD o.pitch

/-- What holds of a record of a list while the frame clock is `f`: it started before `f`; its durations are not
negative; its bend events lie after its start and before `f` in rising order, each differs in pitch from the one
recorded before it, and the last recorded pitch is `curPitch`; a release began after the start and before `f` (51_note_reconstructor.md R245, R254). -/
structure NoteInv (f : Nat) (o : Note) : Prop where
  started : o.startFrame < f
  attack : 0 ≤ o.attack
  decay : 0 ≤ o.decay
  sustain : 0 ≤ o.sustainLen
  release : 0 ≤ o.release
  bendFrames : ∀ b ∈ o.bends, o.startFrame < b.1 ∧ b.1 < f
  bendOrder : o.bends.Pairwise (fun b c => b.1 < c.1)
  bendPitches : (o.pitch :: o.bends.map Prod.snd).IsChain (fun p q => p ≠ q)
  pitchNow : o.curPitch = lastPitch o
  releasing : ∀ rf, o.status = .released rf → o.startFrame < rf ∧ rf < f

/-- What holds of a voice's note list while the frame clock is `f`: every record but the last is stopped, start
frames rise, and every record meets `NoteInv` (51_note_reconstructor.md R253, R254). -/
structure NotesInv (f : Nat) (ns : List Note) : Prop where
  closed : ∀ o ∈ ns.dropLast, o.status = .stopped
  order : ns.Pairwise (fun o p => o.startFrame < p.startFrame)
  records : ∀ o ∈ ns, NoteInv f o

/-- The note lists of a state meet the reconstructor's invariants at its frame clock. -/
def ReconstructorInv (s : State) : Prop := ∀ v : Voice, NotesInv s.frame (notesOf s v)

end Sys2Proof.Machine
end

