-- ==== Sys2Proof/Certificates/Slice0/Obligations.lean ====
section
/-! DEFINITION. The statements for the provers. First the words they are written in, then the statements. -/

namespace Sys2Proof.Claims

open Sys2Proof.Machine

/-! ## The words the statements are written in -/

/-- 1 for a set flag, 0 for a clear one. -/
def bit (b : Bool) : Nat := if b then 1 else 0

/-- The value a list gives flag `k`, or `old` where it lists none for `k`. -/
def valueIn (k : Flag) (old : Bool) : List (Flag × Bool) → Bool
  | [] => old
  | (j, v) :: rest => if k = j then v else valueIn k old rest

/-- `g` is the flag byte `f` with exactly the flags of `written` given their listed values: every flag not listed is
unchanged (41_load_store_transfer.md R110). -/
def FlagsWritten (f g : Byte) (written : List (Flag × Bool)) : Prop :=
  ∀ k, getFlag g k = valueIn k (getFlag f k) written

/-- N and Z as `SetNZ(v)` leaves them. -/
def nz (v : Byte) : List (Flag × Bool) := [(.N, decide (128 ≤ v.toNat)), (.Z, decide (v.toNat = 0))]

/-- An instruction that stores nothing. `bytes` are its encoding; from every state `s` it completes in `cycles` ticks
in the state `want` but for F and the tick count; F has exactly the flags of `written` written; every byte of memory
reads as before. -/
def Completes (bytes : List Byte) (i : Instr) (s : State) (cycles : Nat) (want : State)
    (written : List (Flag × Bool)) : Prop :=
  decode bytes = .ok i [] ∧
  ∃ t, exec i s = .next t ∧ t.remaining + 1 = cycles ∧
    t = { want with f := t.f, remaining := t.remaining } ∧
    FlagsWritten s.f t.f written ∧
    ∀ addr, memRead t addr = memRead s addr

/-- An instruction that stores the byte `v` at the address `ea`, in `cycles` ticks. `registers` gives the registers it
writes. Beside them, F and the tick count, the state is that of the one memory write: every byte of memory outside the
stored one reads as before, and a stored RAM byte reads as `v` when RAM is in canonical form. -/
def Stores (bytes : List Byte) (i : Instr) (s : State) (cycles : Nat) (ea : Word) (v : Byte)
    (registers : State → State) (written : List (Flag × Bool)) : Prop :=
  decode bytes = .ok i [] ∧
  ∃ t, exec i s = .next t ∧ t.remaining + 1 = cycles ∧
    t = { registers (memWrite ea v s) with f := t.f, remaining := t.remaining } ∧
    FlagsWritten s.f t.f written ∧
    (∀ addr, addr ≠ ea → memRead t addr = memRead s addr) ∧
    (Memory.wf s.mem → inRam s ea = true → memRead t ea = v)

/-- An opcode with the constructor of its one-byte operand form. -/
abbrev ByteForm := Byte × (Byte → Instr)
/-- An opcode with the constructor of its word operand form. -/
abbrev WordForm := Byte × (Word → Instr)

/-- `P` of an immediate form: bytes, instruction, operand, ticks (40_addressing.md R94). -/
def ImmForm (c : ByteForm) (cycles : Nat) (P : List Byte → Instr → Byte → Nat → Prop) : Prop :=
  ∀ n, P [c.1, n] (c.2 n) n cycles

/-- `P` of a form that reads its operand through a one-byte operand: bytes, instruction, operand, ticks. -/
def ReadByteForm (s : State) (c : ByteForm) (ea : Byte → Resolved) (base : Nat)
    (P : List Byte → Instr → Byte → Nat → Prop) : Prop :=
  ∀ n, P [c.1, n] (c.2 n) (memRead s (ea n).ea) (base + (ea n).penalty)

/-- `P` of a form that reads its operand through a word operand, low byte first. -/
def ReadWordForm (s : State) (c : WordForm) (ea : Word → Resolved) (base : Nat)
    (P : List Byte → Instr → Byte → Nat → Prop) : Prop :=
  ∀ l h, P [c.1, l, h] (c.2 (wordOf h l)) (memRead s (ea (wordOf h l)).ea) (base + (ea (wordOf h l)).penalty)

/-- `P` of a form that stores through a one-byte operand: bytes, instruction, effective address, ticks. -/
def EaByteForm (c : ByteForm) (ea : Byte → Resolved) (cycles : Nat)
    (P : List Byte → Instr → Word → Nat → Prop) : Prop :=
  ∀ n, P [c.1, n] (c.2 n) (ea n).ea cycles

/-- `P` of a form that stores through a word operand, low byte first. -/
def EaWordForm (c : WordForm) (ea : Word → Resolved) (cycles : Nat)
    (P : List Byte → Instr → Word → Nat → Prop) : Prop :=
  ∀ l h, P [c.1, l, h] (c.2 (wordOf h l)) (ea (wordOf h l)).ea cycles

/-- The eight forms of LDA and of the ALU group: imm 2; zp 3; zpx 4; abs 4; absx 4+p; absy 4+p; indx 6; indy 5+p
(43_alu.md, preamble). -/
def EightForms (s : State) (imm zp zpx : ByteForm) (abs absx absy : WordForm) (indx indy : ByteForm)
    (P : List Byte → Instr → Byte → Nat → Prop) : Prop :=
  ImmForm imm 2 P ∧ ReadByteForm s zp eaZp 3 P ∧ ReadByteForm s zpx (eaZpx · s) 4 P ∧
  ReadWordForm s abs eaAbs 4 P ∧ ReadWordForm s absx (eaAbsx · s) 4 P ∧ ReadWordForm s absy (eaAbsy · s) 4 P ∧
  ReadByteForm s indx (eaIndx · s) 6 P ∧ ReadByteForm s indy (eaIndy · s) 5 P

/-- The three forms of CPX and CPY: imm 2; zp 3; abs 4 (43_alu.md R148, R149). -/
def ThreeForms (s : State) (imm zp : ByteForm) (abs : WordForm)
    (P : List Byte → Instr → Byte → Nat → Prop) : Prop :=
  ImmForm imm 2 P ∧ ReadByteForm s zp eaZp 3 P ∧ ReadWordForm s abs eaAbs 4 P

/-- The four memory forms of INC, DEC and the shifts: zp 5; zpx 6; abs 6; absx 7 (44_inc_dec_shift.md). -/
def FourForms (s : State) (zp zpx : ByteForm) (abs absx : WordForm)
    (P : List Byte → Instr → Word → Nat → Prop) : Prop :=
  EaByteForm zp eaZp 5 P ∧ EaByteForm zpx (eaZpx · s) 6 P ∧ EaWordForm abs eaAbs 6 P ∧
  EaWordForm absx (eaAbsx · s) 7 P

/-- The seven forms of the combined instructions: zp 5; zpx 6; abs 6; absx 7; absy 7; indx 8; indy 8
(47_undocumented_rmw.md R210). -/
def SevenForms (s : State) (zp zpx : ByteForm) (abs absx absy : WordForm) (indx indy : ByteForm)
    (P : List Byte → Instr → Word → Nat → Prop) : Prop :=
  FourForms s zp zpx abs absx P ∧ EaWordForm absy (eaAbsy · s) 7 P ∧
  EaByteForm indx (eaIndx · s) 8 P ∧ EaByteForm indy (eaIndy · s) 8 P

/-- `r = (A + m + C) mod 2^8` for the accumulator `a` and carry `c`. -/
def addResult (a m : Byte) (c : Bool) : Byte := BitVec.ofNat 8 ((a.toNat + m.toNat + bit c) % 256)

/-- The flags of `DoADC(m)` in the words of 43_alu.md R140: C is bit 8 of the sum, V is
`(1 ^ (A[7] ^ m[7])) & (A[7] ^ r[7])`. -/
def addFlags (a m : Byte) (c : Bool) : List (Flag × Bool) :=
  [(.C, decide (256 ≤ a.toNat + m.toNat + bit c)),
   (.V, (a.getLsbD 7 == m.getLsbD 7) && (a.getLsbD 7 != (addResult a m c).getLsbD 7))] ++ nz (addResult a m c)

/-- `~m = 255 - m` (00_scope.md R8). -/
def complement (m : Byte) : Byte := BitVec.ofNat 8 (255 - m.toNat)

/-- The flags of `DoCompare(r, m)` (43_alu.md R146). -/
def cmpFlags (r m : Byte) : List (Flag × Bool) :=
  [(.N, (BitVec.ofNat 8 (r.toNat + 0x100 - m.toNat)).getLsbD 7), (.Z, decide (r = m)),
   (.C, decide (m.toNat ≤ r.toNat))]

/-- Results of the shift primitives as numbers (44_inc_dec_shift.md R166). -/
def aslByte (v : Byte) : Byte := BitVec.ofNat 8 (v.toNat * 2 % 256)
def lsrByte (v : Byte) : Byte := BitVec.ofNat 8 (v.toNat / 2)
def rolByte (v : Byte) (c : Bool) : Byte := BitVec.ofNat 8 (v.toNat * 2 % 256 + bit c)
def rorByte (v : Byte) (c : Bool) : Byte := BitVec.ofNat 8 (v.toNat / 2 + bit c * 0x80)
/-- `(v + 1) mod 2^8` and `(v - 1) mod 2^8`. -/
def incByte (v : Byte) : Byte := BitVec.ofNat 8 ((v.toNat + 1) % 256)
def decByte (v : Byte) : Byte := BitVec.ofNat 8 ((v.toNat + 255) % 256)

/-- Bits 7 and 0 of a byte, the bits shifted out. -/
def topBit (v : Byte) : Bool := decide (128 ≤ v.toNat)
def lowBit (v : Byte) : Bool := decide (v.toNat % 2 = 1)

/-- `signed(b)` (00_scope.md R9). -/
def signed (b : Byte) : Int := if 128 ≤ b.toNat then (b.toNat : Int) - 256 else b.toNat

/-- The branch's target and tick count from the address `pc` of the next instruction, as numbers
(45_control.md R183). -/
def branchTarget (pc : Word) (off : Byte) : Word := BitVec.ofInt 16 (pc.toNat + signed off)

/-- The branch on flag `k` having the value `v`, opcode `op` (45_control.md R183). -/
def Branches (op : Byte) (i : Byte → Instr) (k : Flag) (v : Bool) : Prop :=
  ∀ (s : State) (off : Byte),
    (getFlag s.f k ≠ v → Completes [op, off] (i off) s 2 s []) ∧
    (getFlag s.f k = v →
      Completes [op, off] (i off) s
        (if (branchTarget s.pc off).toNat / 256 = s.pc.toNat / 256 then 3 else 4)
        { s with pc := branchTarget s.pc off } [])

/-- The 63 unset slots of 30_encoding.md R76. -/
def unsetOpcodes : List Byte :=
  [0x02, 0x04, 0x0B, 0x0C, 0x12, 0x14, 0x1A, 0x1C, 0x22, 0x2B, 0x32, 0x34, 0x3A, 0x3C, 0x42, 0x44] ++
  [0x4B, 0x52, 0x54, 0x5A, 0x5C, 0x62, 0x64, 0x6B, 0x72, 0x74, 0x7A, 0x7C, 0x80, 0x82, 0x83, 0x87] ++
  [0x89, 0x8B, 0x8F, 0x92, 0x93, 0x97, 0x9B, 0x9C, 0x9E, 0x9F, 0xA3, 0xA7, 0xAB, 0xAF, 0xB2, 0xB3] ++
  [0xB7, 0xBB, 0xBF, 0xC2, 0xCB, 0xD2, 0xD4, 0xDA, 0xDC, 0xE2, 0xEB, 0xF2, 0xF4, 0xFA, 0xFC]

/-- The opcode byte of an instruction. -/
def opcodeOf (i : Instr) : Byte := (encode i).headD 0

/-- The mnemonic of an instruction's slot. -/
def mnemonicOf (i : Instr) : String := ((dispatch (opcodeOf i)).map Slot.mnemonic).getD ""

/-- The addressing mode of an instruction's slot. -/
def modeOf (i : Instr) : Mode := ((dispatch (opcodeOf i)).map Slot.mode).getD .imp

/-- The operand byte or the low byte of the operand word. -/
def operand1 (i : Instr) : Byte := (encode i).getD 1 0
/-- The high byte of the operand word. -/
def operand2 (i : Instr) : Byte := (encode i).getD 2 0

/-- 1 when adding `index` to `base` modulo 2^16 changes the high byte, else 0 (40_addressing.md R91). -/
def crossing (base : Nat) (index : Byte) : Nat :=
  if base / 256 = (base + index.toNat) % 65536 / 256 then 0 else 1

/-- The page-cross indicator of an instruction in a state, from its slot's mode and its operand bytes
(40_addressing.md R91, R99, R100, R103). -/
def pageCross (i : Instr) (s : State) : Nat :=
  match modeOf i with
  | .absx => crossing ((operand1 i).toNat + 256 * (operand2 i).toNat) s.x
  | .absy => crossing ((operand1 i).toNat + 256 * (operand2 i).toNat) s.y
  | .indy =>
    crossing ((memRead s (BitVec.ofNat 16 (operand1 i).toNat)).toNat +
      256 * (memRead s (BitVec.ofNat 16 (((operand1 i).toNat + 1) % 256))).toNat) s.y
  | _ => 0

/-- Is a branch's condition met (45_control.md R184 to R191). -/
def taken (i : Instr) (s : State) : Bool :=
  match i with
  | .bpl _ => !getFlag s.f .N
  | .bmi _ => getFlag s.f .N
  | .bvc _ => !getFlag s.f .V
  | .bvs _ => getFlag s.f .V
  | .bcc _ => !getFlag s.f .C
  | .bcs _ => getFlag s.f .C
  | .bne _ => !getFlag s.f .Z
  | .beq _ => getFlag s.f .Z
  | _ => false

/-- The extra ticks of a taken branch: 1, or 2 across a page (45_control.md R183). -/
def branchExtra (i : Instr) (s : State) : Nat :=
  if taken i s then
    if (branchTarget s.pc (operand1 i)).toNat / 256 = s.pc.toNat / 256 then 1 else 2
  else 0

/-- The tick count of an instruction by the dispatch table (30_encoding.md R77). -/
def cycleCount (i : Instr) (s : State) : Nat :=
  match dispatch (opcodeOf i) with
  | none => 0
  | some t => t.baseCycles + (if t.pagePenalty then pageCross i s else 0) + branchExtra i s

/-- The mnemonics of instructions that may change A in every mode, X, Y, S, C, N and Z, V (10_state.md R21, R23,
R24, R25). -/
def writesA : List String :=
  ["LDA", "TXA", "TYA", "PLA", "AND", "EOR", "ORA", "ADC", "SBC", "SLO", "RLA", "SRE", "RRA", "ISC"]
def writesX : List String := ["LDX", "TAX", "TSX", "INX", "DEX"]
def writesY : List String := ["LDY", "TAY", "INY", "DEY"]
def writesS : List String := ["TXS", "PHA", "PHP", "PLA", "PLP", "JSR", "RTS", "RTI"]
def shifts : List String := ["ASL", "LSR", "ROL", "ROR"]
def writesC : List String :=
  ["ADC", "SBC", "CMP", "CPX", "CPY", "CLC", "SEC", "PLP", "RTI", "SLO", "RLA", "SRE", "RRA", "DCP", "ISC"] ++ shifts
def writesNZ : List String :=
  ["LDA", "LDX", "LDY", "TAX", "TAY", "TXA", "TYA", "TSX", "PLA", "AND", "EOR", "ORA", "ADC", "SBC", "CMP", "CPX"] ++
  ["CPY", "INC", "DEC", "INX", "INY", "DEX", "DEY", "SLO", "RLA", "SRE", "RRA", "DCP", "ISC", "BIT", "PLP", "RTI"] ++
  shifts
def writesV : List String := ["ADC", "SBC", "RRA", "ISC", "BIT", "CLV", "PLP", "RTI"]

/-- `u` is `t` but for flag `k` of F. -/
def SameBut (k : Flag) (t u : State) : Prop :=
  u = { t with f := u.f } ∧ ∀ j, j ≠ k → getFlag u.f j = getFlag t.f j

/-- The instruction whose first step is `first` and whose second is `second`, as one: the final state is the second's
but for the tick count (47_undocumented_rmw.md R210). -/
def Composes (combined first second : Instr) (s : State) : Prop :=
  ∃ t u v, exec combined s = .next t ∧ exec first s = .next u ∧ exec second u = .next v ∧
    t = { v with remaining := t.remaining }

/-- The forms that the combined instruction, its first step and its second step share with one-byte operands not read
through memory, and with word operands. -/
def ComposesInRam (combined first second : (Byte → Instr) × (Byte → Instr) × (Word → Instr) × (Word → Instr)) :
    Prop :=
  ∀ s : State, Memory.wf s.mem →
    (∀ n, inRam s (eaZp n).ea = true → Composes (combined.1 n) (first.1 n) (second.1 n) s) ∧
    (∀ n, inRam s (eaZpx n s).ea = true → Composes (combined.2.1 n) (first.2.1 n) (second.2.1 n) s) ∧
    (∀ w, inRam s (eaAbs w).ea = true → Composes (combined.2.2.1 w) (first.2.2.1 w) (second.2.2.1 w) s) ∧
    (∀ w, inRam s (eaAbsx w s).ea = true → Composes (combined.2.2.2 w) (first.2.2.2 w) (second.2.2.2 w) s)

/-- Entry `i` of a list of durations in milliseconds, as seconds. -/
def secondsAt (l : List Nat) (i : Nat) : Rat := ((l.getD i 0 : Nat) : Rat) / 1000

/-- What a host that reads the end of a run gets of voice `v`: the eight fields the spec lists, record by record
(51_note_reconstructor.md R253). -/
def OutputHolds (s : State) (out : Output) : Prop :=
  ∃ lists : Vector (List OutputNote) 3, out = .music lists s.warnings ∧
    ∀ v : Voice, lists[v] = (notesOf s v).map fun o =>
      ⟨o.startFrame, o.pitch, o.waveform, o.attack, o.decay, o.sustainLen, o.release, o.bends⟩

/-- The warnings of voice `v` at a frame's end: those of its waveform bits when its gate is set and it has a frequency,
else none (51_note_reconstructor.md R242, R246). -/
def voiceWarnings (s : State) (v : Voice) : List Warning :=
  if gate s v = true ∧ (freq s v).toNat ≠ 0 then waveformWarnings v s.frame (waveBits s v) else []

/-- A byte written at `addr` is poked into latch `j`: a SID region serves the address, `j` bytes from its start
(20_memory.md R54). -/
def Pokes (s : State) (addr : Word) (j : Nat) : Prop :=
  ∃ r, regionAt s addr = some r ∧ r.kind = .sid ∧ addr.toNat - r.start = j

/-- The list `x` holds every stopped record of `y`, unchanged and at the same place, and is no shorter than `y`. -/
def KeepsStopped (x y : List Note) : Prop :=
  y.length ≤ x.length ∧ ∀ (k : Nat) (o : Note), y[k]? = some o → o.status = .stopped → x[k]? = some o

end Sys2Proof.Claims

open Sys2Proof Sys2Proof.Machine Sys2Proof.Claims

/-! ## Reset and invariants -/

/-- What reset leaves. The values are the spec's own choice (10_state.md R41, 92_eei_decisions.md D22), not the
source's. -/
def Obligations.ResetLeavesTheTableValues : Prop :=
  (State.reset.a = 0 ∧ State.reset.x = 0 ∧ State.reset.y = 0 ∧ State.reset.sp = 0xFF ∧ State.reset.pc = 0) ∧
  (∀ k, getFlag State.reset.f k = decide (k = .U)) ∧
  State.reset.remaining = 0 ∧ State.reset.regions = Config.memoryMap ∧
  (∀ addr, memRead State.reset addr = 0) ∧
  (∀ i (h : i < 25), State.reset.reg[i] = 0) ∧ (∀ v, notesOf State.reset v = []) ∧
  State.reset.frame = 0 ∧ State.reset.warnings = [] ∧ State.reset.faultState = none ∧
  (∀ s, hostReset s = State.reset)

/-- The state after reset meets the invariants the next statements are about. -/
def Obligations.ResetMeetsTheInvariants : Prop := CoreInv State.reset ∧ ReconstructorInv State.reset

/-- Every step, under either policy for unset slots, keeps RAM canonical, the wait count at most 7, the unused flag
set and the regions as they must be. -/
def Obligations.StepKeepsTheCoreInvariant : Prop :=
  (∀ s t, CoreInv s → step s = .next t → CoreInv t) ∧
  (∀ policy s t, CoreInv s → tick policy s = .next t → CoreInv t)

/-- Every host operation keeps the core invariant. -/
def Obligations.HostOperationsKeepTheCoreInvariant : Prop :=
  ∀ s, CoreInv s →
    (∀ loadBase bytes base, CoreInv (load loadBase bytes base s)) ∧ (∀ addr a, CoreInv (call addr a s)) ∧
    (∀ r t, attach r s = .next t → CoreInv t) ∧ CoreInv (finishFrame s) ∧ CoreInv (advanceFrame s) ∧
    CoreInv (flush s) ∧ ∀ n t, ticks n s = .next t → CoreInv t

/-! ## Encoding -/

/-- Decoding the encoding of an instruction, followed by any bytes, gives it back with every operand and leaves the
other bytes. -/
def Obligations.DecodeOfEncodeIsTheInstruction : Prop :=
  ∀ (i : Instr) (rest : List Byte), i.wf = true → decode (encode i ++ rest) = .ok i rest

/-- Bytes that decode are the encoding of what they decode to: no two encodings stand for one instruction and no bit
is dropped. -/
def Obligations.EncodeOfDecodeIsTheBytes : Prop :=
  ∀ (bytes rest : List Byte) (i : Instr), decode bytes = .ok i rest → encode i ++ rest = bytes

/-- Words written out from the spec's encodings (30_encoding.md section 4). -/
def Obligations.SpecWordsDecodeToTheirInstructions : Prop :=
  decode [0b10101001, 0b00000101] = .ok (.ldaImm 0x05) [] ∧
  decode [0b10001101, 0b00000100, 0b11010100] = .ok (.staAbs 0xD404) [] ∧
  decode [0b00101000] = .ok .plp [] ∧
  decode [0b11110001, 0b01000000] = .ok (.sbcIndy 0x40) [] ∧
  decode [0b00011110, 0b11111111, 0b00100000] = .ok (.aslAbsx 0x20FF) [] ∧
  decode [0b01101100, 0b11111111, 0b00110000] = .ok (.jmpInd 0x30FF) [] ∧
  decode [0b11010000, 0b11111100] = .ok (.bne 0xFC) [] ∧
  decode [0b11111000] = .ok .sed [] ∧
  decode [0b11011011, 0b11111111, 0b00100000] = .ok (.dcpAbsy 0x20FF) []

/-- Exactly the 63 listed opcodes are rejected, by name, and a tick that dispatches one follows the policy: `fail`
records the fault with the opcode's address and changes only PC beside, `nop1` only moves PC. The list is the
family's (30_encoding.md R76), the choice of bound slots and of the policy the spec's own (92_eei_decisions.md D4,
D5). -/
def Obligations.UnsetSlotsFollowThePolicy : Prop :=
  (∀ op rest, decode (op :: rest) = .rejected (.unsetSlot op) ↔ op ∈ unsetOpcodes) ∧
  ∀ s, Ready s → memRead s s.pc ∈ unsetOpcodes →
    tick .fail s = .next { s with
      pc := s.pc + 1
      faultState := some ⟨.illegalOpcode, s.pc, memRead s s.pc, s.frame⟩ } ∧
    step s = tick .fail s ∧
    tick .nop1 s = .next { s with pc := s.pc + 1 }

/-- Every bound slot has the operand bytes of its mode, the disassembly flag exactly on 3-byte instructions
(92_eei_decisions.md D37), and a page-cross penalty only in a mode that can report one. -/
def Obligations.SlotShapeFollowsTheMode : Prop :=
  ∀ op t, dispatch op = some t →
    (t.operandBytes = 0 ↔ t.mode = .imp ∨ t.mode = .acc) ∧
    (t.operandBytes = 2 ↔ t.mode = .abs ∨ t.mode = .absx ∨ t.mode = .absy ∨ t.mode = .ind) ∧
    t.operandBytes ≤ 2 ∧ (t.reversedOperandByteOrder = true ↔ t.operandBytes = 2) ∧
    (t.pagePenalty = true → t.mode = .absx ∨ t.mode = .absy ∨ t.mode = .indy)

/-! ## The tick -/

/-- When the bytes at PC decode to an instruction, the step of a ready core is that instruction's meaning at the state
with PC moved past its bytes. -/
def Obligations.StepRunsTheDecodedInstruction : Prop :=
  ∀ (s : State) (i : Instr) (rest : List Byte), Ready s →
    decode [memRead s s.pc, memRead s (s.pc + 1), memRead s (s.pc + 2)] = .ok i rest →
    step s = exec i { s with pc := s.pc + BitVec.ofNat 16 i.length }

/-- One step, in the order of its tests: a faulted core does not change; one inside an instruction uses up a tick; a
halted core does not change; a ready core whose opcode is bound runs it and one whose opcode is unset is faulted. -/
def Obligations.StepFollowsTheTickRule : Prop :=
  ∀ s : State,
    (Faulted s → step s = .next s) ∧
    (MidInstruction s → step s = .next { s with remaining := s.remaining - 1 }) ∧
    (Halted s → step s = .next s) ∧
    (Ready s → ∀ op, memRead s s.pc = op →
      (dispatch op = none → ∃ t, step s = .next t ∧ t.faultState = some ⟨.illegalOpcode, s.pc, op, s.frame⟩) ∧
      (∀ slot, dispatch op = some slot →
        ∃ i, opcodeOf i = op ∧ (encode i).length = slot.operandBytes + 1 ∧
          (∀ k b, (encode i)[k]? = some b → memRead s (s.pc + BitVec.ofNat 16 k) = b) ∧
          ∃ t, step s = .next t ∧ exec i { s with pc := s.pc + BitVec.ofNat 16 (slot.operandBytes + 1) } = .next t))

/-- A faulted or halted core stays as it is for any number of ticks, and a core inside an instruction only counts
down. That a fault is terminal is the spec's own choice (92_eei_decisions.md D38, D34). -/
def Obligations.QuietTicksChangeNothingElse : Prop :=
  ∀ (s : State) (n : Nat),
    (Faulted s ∨ Halted s → ticks n s = .next s) ∧
    (s.faultState = none → n ≤ s.remaining → ticks n s = .next { s with remaining := s.remaining - n })

/-- An instruction has all its effects in its first tick and then only waits: after each of its further ticks the
state is that of the first but for the count, which reaches 0 after exactly the instruction's tick count
(92_eei_decisions.md D8). -/
def Obligations.EffectsComeInTheFirstTick : Prop :=
  ∀ (s : State) (i : Instr) (rest : List Byte), Ready s →
    decode [memRead s s.pc, memRead s (s.pc + 1), memRead s (s.pc + 2)] = .ok i rest →
    ∃ t, step s = .next t ∧
      t.remaining + 1 = cycleCount i { s with pc := s.pc + BitVec.ofNat 16 i.length } ∧
      ∀ n, n ≤ t.remaining → ticks (n + 1) s = .next { t with remaining := t.remaining - n }

/-- Every instruction, in every state, completes in exactly the ticks of its slot: the base count, the page-cross
indicator where the slot asks for it, and a taken branch's extra ticks (92_eei_decisions.md D7, D9). -/
def Obligations.EveryInstructionTakesItsTableTicks : Prop :=
  ∀ (i : Instr) (s : State), ∃ t, exec i s = .next t ∧ t.remaining + 1 = cycleCount i s

/-! ## Memory, the stack and operands -/

/-- An address is served by the first attached region that covers it; an unmapped address reads as 0 and discards
writes. -/
def Obligations.FirstCoveringRegionServesAnAddress : Prop :=
  ∀ (s : State) (addr : Word) (v : Byte),
    (∀ before r after, s.regions = before ++ r :: after →
      (∀ q ∈ before, ¬(q.start ≤ addr.toNat ∧ addr.toNat ≤ q.stop)) →
      r.start ≤ addr.toNat → addr.toNat ≤ r.stop →
      (r.kind = .ram → memRead s addr = Memory.read s.mem addr.toNat ∧
        memWrite addr v s = { s with mem := Memory.write s.mem addr.toNat v }) ∧
      (r.kind = .sid → memRead s addr = 0 ∧ memWrite addr v s = poke (addr.toNat - r.start) v s)) ∧
    ((∀ q ∈ s.regions, ¬(q.start ≤ addr.toNat ∧ addr.toNat ≤ q.stop)) →
      memRead s addr = 0 ∧ memWrite addr v s = s)

/-- A RAM byte reads as last written, one never written as `P_RAM_INIT`; the SID sink and unmapped addresses read as
0 after a write; every other address reads as before; no register changes. The reads of the sink and the initial
contents are the spec's own choice (92_eei_decisions.md D20, D21). -/
def Obligations.WrittenBytesReadBack : Prop :=
  ∀ (s : State) (addr : Word) (v : Byte),
    (Memory.wf s.mem → inRam s addr = true → memRead (memWrite addr v s) addr = v) ∧
    (inRam s addr = false → memRead s addr = 0 ∧ memRead (memWrite addr v s) addr = 0) ∧
    ((∀ c ∈ s.mem, c.1 ≠ addr.toNat) → memRead s addr = 0) ∧
    (∀ other, other ≠ addr → memRead (memWrite addr v s) other = memRead s other) ∧
    memWrite addr v s = { s with mem := (memWrite addr v s).mem, reg := (memWrite addr v s).reg }

/-- Under the default map $D400 to $D418 reach the SID sink, every other address RAM. The map is the spec's own choice
(92_eei_decisions.md D19). -/
def Obligations.DefaultMapSplitsTheAddressSpace : Prop :=
  ∀ (s : State) (addr : Word), s.regions = Config.memoryMap →
    (inRam s addr = true ↔ ¬(0xD400 ≤ addr.toNat ∧ addr.toNat ≤ 0xD418)) ∧
    ∀ i v, addr.toNat = 0xD400 + i → i ≤ 24 → memWrite addr v s = poke i v s

/-- Push writes at `P_STACK_BASE + S` and decrements S, pull increments S and reads there, both modulo 2^8; what was
pushed is pulled back and S restored. The base $0100 is the spec's own choice (92_eei_decisions.md D18). -/
def Obligations.PushThenPullGivesTheByteBack : Prop :=
  ∀ (s : State) (v : Byte),
    (stackAddr s.sp).toNat = 0x0100 + s.sp.toNat ∧
    push v s = { memWrite (stackAddr s.sp) v s with sp := BitVec.ofNat 8 ((s.sp.toNat + 255) % 256) } ∧
    (pull s).1 = memRead s (stackAddr (BitVec.ofNat 8 ((s.sp.toNat + 1) % 256))) ∧
    (pull s).2 = { s with sp := BitVec.ofNat 8 ((s.sp.toNat + 1) % 256) } ∧
    (Memory.wf s.mem → inRam s (stackAddr s.sp) = true →
      (pull (push v s)).1 = v ∧ (pull (push v s)).2 = memWrite (stackAddr s.sp) v s)

/-- The advance-PC read: the byte at PC, and PC one further modulo 2^16. -/
def Obligations.FetchReadsAtPcAndAdvances : Prop :=
  ∀ s : State, (fetchByte s).1 = memRead s s.pc ∧
    (fetchByte s).2 = { s with pc := BitVec.ofNat 16 ((s.pc.toNat + 1) % 65536) }

/-- Effective addresses as numbers: zero-page sums and pointers wrap modulo 2^8, absolute-indexed sums modulo 2^16,
pointers are low byte first, and JMP's pointer stays in its page under `P_JMP_IND_WRAP`. The wraps are the spec's own
choice (92_eei_decisions.md D14, D15, D16). -/
def Obligations.EffectiveAddressesFollowTheModes : Prop :=
  ∀ (s : State) (n : Byte) (w : Word),
    let m : Nat → Nat := fun a => (memRead s (BitVec.ofNat 16 a)).toNat
    let zp : Nat → Nat := fun p => m p + 256 * m ((p + 1) % 256)
    (eaZp n).ea.toNat = n.toNat ∧ (eaZpx n s).ea.toNat = (n.toNat + s.x.toNat) % 256 ∧
    (eaZpy n s).ea.toNat = (n.toNat + s.y.toNat) % 256 ∧ (eaAbs w).ea = w ∧
    (eaAbsx w s).ea.toNat = (w.toNat + s.x.toNat) % 65536 ∧ (eaAbsy w s).ea.toNat = (w.toNat + s.y.toNat) % 65536 ∧
    (eaIndx n s).ea.toNat = zp ((n.toNat + s.x.toNat) % 256) ∧
    (eaIndy n s).ea.toNat = (zp n.toNat + s.y.toNat) % 65536 ∧
    (eaInd true w s).toNat = m w.toNat + 256 * m (w.toNat / 256 * 256 + (w.toNat + 1) % 256) ∧
    (eaInd false w s).toNat = m w.toNat + 256 * m ((w.toNat + 1) % 65536)

/-- The page-cross indicator is 1 exactly when an indexed address computation changes the high byte, and 0 in every
other mode. -/
def Obligations.PenaltyIsOneWhenTheHighByteChanges : Prop :=
  ∀ (s : State) (n : Byte) (w : Word),
    (eaAbsx w s).penalty = crossing w.toNat s.x ∧ (eaAbsy w s).penalty = crossing w.toNat s.y ∧
    (eaIndy n s).penalty = crossing (zpPointer n s).toNat s.y ∧
    (eaZp n).penalty = 0 ∧ (eaZpx n s).penalty = 0 ∧ (eaZpy n s).penalty = 0 ∧ (eaAbs w).penalty = 0 ∧
    (eaIndx n s).penalty = 0

/-! ## The instructions -/

/-- LDA, LDX, LDY: the register takes the operand, N and Z are set from it, nothing else changes. -/
def Obligations.LoadsTakeTheOperand : Prop :=
  ∀ s : State,
    EightForms s (0xA9, .ldaImm) (0xA5, .ldaZp) (0xB5, .ldaZpx) (0xAD, .ldaAbs) (0xBD, .ldaAbsx) (0xB9, .ldaAbsy)
      (0xA1, .ldaIndx) (0xB1, .ldaIndy) (fun bytes i m cycles => Completes bytes i s cycles { s with a := m } (nz m)) ∧
    (let P := fun bytes i m cycles => Completes bytes i s cycles { s with x := m } (nz m)
     ImmForm (0xA2, .ldxImm) 2 P ∧ ReadByteForm s (0xA6, .ldxZp) eaZp 3 P ∧
     ReadByteForm s (0xB6, .ldxZpy) (eaZpy · s) 4 P ∧ ReadWordForm s (0xAE, .ldxAbs) eaAbs 4 P ∧
     ReadWordForm s (0xBE, .ldxAbsy) (eaAbsy · s) 4 P) ∧
    (let P := fun bytes i m cycles => Completes bytes i s cycles { s with y := m } (nz m)
     ImmForm (0xA0, .ldyImm) 2 P ∧ ReadByteForm s (0xA4, .ldyZp) eaZp 3 P ∧
     ReadByteForm s (0xB4, .ldyZpx) (eaZpx · s) 4 P ∧ ReadWordForm s (0xAC, .ldyAbs) eaAbs 4 P ∧
     ReadWordForm s (0xBC, .ldyAbsx) (eaAbsx · s) 4 P)

/-- STA, STX, STY: one byte is stored at the effective address, no register and no flag changes, no penalty is
paid. -/
def Obligations.StoresWriteTheRegister : Prop :=
  ∀ s : State,
    (let P := fun bytes i ea cycles => Stores bytes i s cycles ea s.a id []
     EaByteForm (0x85, .staZp) eaZp 3 P ∧ EaByteForm (0x95, .staZpx) (eaZpx · s) 4 P ∧
     EaWordForm (0x8D, .staAbs) eaAbs 4 P ∧ EaWordForm (0x9D, .staAbsx) (eaAbsx · s) 5 P ∧
     EaWordForm (0x99, .staAbsy) (eaAbsy · s) 5 P ∧ EaByteForm (0x81, .staIndx) (eaIndx · s) 6 P ∧
     EaByteForm (0x91, .staIndy) (eaIndy · s) 6 P) ∧
    (let P := fun bytes i ea cycles => Stores bytes i s cycles ea s.x id []
     EaByteForm (0x86, .stxZp) eaZp 3 P ∧ EaByteForm (0x96, .stxZpy) (eaZpy · s) 4 P ∧
     EaWordForm (0x8E, .stxAbs) eaAbs 4 P) ∧
    (let P := fun bytes i ea cycles => Stores bytes i s cycles ea s.y id []
     EaByteForm (0x84, .styZp) eaZp 3 P ∧ EaByteForm (0x94, .styZpx) (eaZpx · s) 4 P ∧
     EaWordForm (0x8C, .styAbs) eaAbs 4 P)

/-- The transfers copy a register and set N and Z; TXS sets no flag. -/
def Obligations.TransfersCopyARegister : Prop :=
  ∀ s : State,
    Completes [0xAA] .tax s 2 { s with x := s.a } (nz s.a) ∧ Completes [0xA8] .tay s 2 { s with y := s.a } (nz s.a) ∧
    Completes [0x8A] .txa s 2 { s with a := s.x } (nz s.x) ∧ Completes [0x98] .tya s 2 { s with a := s.y } (nz s.y) ∧
    Completes [0xBA] .tsx s 2 { s with x := s.sp } (nz s.sp) ∧ Completes [0x9A] .txs s 2 { s with sp := s.x } []

/-- PHA stores A at the address S names and decrements S; PLA increments S and loads A from there. -/
def Obligations.AccumulatorGoesThroughTheStack : Prop :=
  ∀ s : State,
    Stores [0x48] .pha s 3 (stackAddr s.sp) s.a (fun t => { t with sp := s.sp - 1 }) [] ∧
    (let v := memRead s (stackAddr (s.sp + 1))
     Completes [0x68] .pla s 4 { s with a := v, sp := s.sp + 1 } (nz v))

/-- PHP pushes F with bits 4 and 5 set; PLP and RTI take every flag but B and U from the stack, RTI then PC without
adding 1. The treatment of B and U is the spec's own choice (92_eei_decisions.md D12). -/
def Obligations.FlagsGoThroughTheStack : Prop :=
  ∀ s : State,
    let pulled : Byte → List (Flag × Bool) := fun v =>
      [(.C, v.getLsbD 0), (.Z, v.getLsbD 1), (.I, v.getLsbD 2), (.D, v.getLsbD 3), (.V, v.getLsbD 6),
       (.N, v.getLsbD 7)]
    let at' : Byte → Byte := fun k => memRead s (stackAddr (s.sp + k))
    Stores [0x08] .php s 3 (stackAddr s.sp) (s.f ||| 0x30) (fun t => { t with sp := s.sp - 1 }) [] ∧
    Completes [0x28] .plp s 4 { s with sp := s.sp + 1 } (pulled (at' 1)) ∧
    Completes [0x40] .rti s 6 { s with sp := s.sp + 3, pc := wordOf (at' 3) (at' 2) } (pulled (at' 1))

/-- ADC: A becomes the sum modulo 2^8 with C, V, N and Z by the formulas of the rule, whatever D holds. -/
def Obligations.AdcAddsWithCarry : Prop :=
  ∀ s : State,
    EightForms s (0x69, .adcImm) (0x65, .adcZp) (0x75, .adcZpx) (0x6D, .adcAbs) (0x7D, .adcAbsx) (0x79, .adcAbsy)
      (0x61, .adcIndx) (0x71, .adcIndy) (fun bytes i m cycles =>
        Completes bytes i s cycles { s with a := addResult s.a m (getFlag s.f .C) } (addFlags s.a m (getFlag s.f .C)))

/-- SBC: the add of the operand's complement. -/
def Obligations.SbcAddsTheComplement : Prop :=
  ∀ s : State,
    EightForms s (0xE9, .sbcImm) (0xE5, .sbcZp) (0xF5, .sbcZpx) (0xED, .sbcAbs) (0xFD, .sbcAbsx) (0xF9, .sbcAbsy)
      (0xE1, .sbcIndx) (0xF1, .sbcIndy) (fun bytes i m cycles =>
        Completes bytes i s cycles { s with a := addResult s.a (complement m) (getFlag s.f .C) }
          (addFlags s.a (complement m) (getFlag s.f .C)))

/-- V is signed overflow and C unsigned overflow, for every accumulator, operand and carry: of the sum for ADC, of the
difference for SBC, where C clear is a borrow. The spec marks these as derived from its rules. -/
def Obligations.OverflowIsTwosComplementOverflow : Prop :=
  ∀ (s : State) (m : Byte),
    let c : Int := bit (getFlag s.f .C)
    let add := doAdc m s
    let sub := doSbc m s
    (getFlag add.f .V = true ↔ signed s.a + signed m + c < -128 ∨ 127 < signed s.a + signed m + c) ∧
    (getFlag add.f .C = true ↔ 256 ≤ (s.a.toNat : Int) + m.toNat + c) ∧
    (add.a.toNat : Int) = ((s.a.toNat : Int) + m.toNat + c) % 256 ∧
    (getFlag sub.f .V = true ↔ signed s.a - signed m - (1 - c) < -128 ∨ 127 < signed s.a - signed m - (1 - c)) ∧
    (getFlag sub.f .C = true ↔ 0 ≤ (s.a.toNat : Int) - m.toNat - (1 - c)) ∧
    (sub.a.toNat : Int) = ((s.a.toNat : Int) - m.toNat - (1 - c)) % 256

/-- AND, EOR, ORA: the bitwise result in A, N and Z from it, C and V unchanged. -/
def Obligations.LogicCombinesBitwise : Prop :=
  ∀ s : State,
    let P : (Bool → Bool → Bool) → List Byte → Instr → Byte → Nat → Prop := fun op bytes i m cycles =>
      ∃ r : Byte, (∀ k, k < 8 → r.getLsbD k = op (s.a.getLsbD k) (m.getLsbD k)) ∧
        Completes bytes i s cycles { s with a := r } (nz r)
    EightForms s (0x29, .andImm) (0x25, .andZp) (0x35, .andZpx) (0x2D, .andAbs) (0x3D, .andAbsx) (0x39, .andAbsy)
      (0x21, .andIndx) (0x31, .andIndy) (P and) ∧
    EightForms s (0x49, .eorImm) (0x45, .eorZp) (0x55, .eorZpx) (0x4D, .eorAbs) (0x5D, .eorAbsx) (0x59, .eorAbsy)
      (0x41, .eorIndx) (0x51, .eorIndy) (P xor) ∧
    EightForms s (0x09, .oraImm) (0x05, .oraZp) (0x15, .oraZpx) (0x0D, .oraAbs) (0x1D, .oraAbsx) (0x19, .oraAbsy)
      (0x01, .oraIndx) (0x11, .oraIndy) (P or)

/-- BIT: Z from `A & m`, N and V bits 7 and 6 of the operand, A unchanged. -/
def Obligations.BitTestsTheOperand : Prop :=
  ∀ s : State,
    let P : List Byte → Instr → Byte → Nat → Prop := fun bytes i m cycles =>
      Completes bytes i s cycles s
        [(.Z, decide (s.a &&& m = 0)), (.N, m.getLsbD 7), (.V, m.getLsbD 6)]
    ReadByteForm s (0x24, .bitZp) eaZp 3 P ∧ ReadWordForm s (0x2C, .bitAbs) eaAbs 4 P

/-- CMP, CPX, CPY: N is bit 7 of the difference, Z equality, C the unsigned comparison; no register changes. -/
def Obligations.ComparesSetTheFlags : Prop :=
  ∀ s : State,
    EightForms s (0xC9, .cmpImm) (0xC5, .cmpZp) (0xD5, .cmpZpx) (0xCD, .cmpAbs) (0xDD, .cmpAbsx) (0xD9, .cmpAbsy)
      (0xC1, .cmpIndx) (0xD1, .cmpIndy) (fun bytes i m cycles => Completes bytes i s cycles s (cmpFlags s.a m)) ∧
    ThreeForms s (0xE0, .cpxImm) (0xE4, .cpxZp) (0xEC, .cpxAbs)
      (fun bytes i m cycles => Completes bytes i s cycles s (cmpFlags s.x m)) ∧
    ThreeForms s (0xC0, .cpyImm) (0xC4, .cpyZp) (0xCC, .cpyAbs)
      (fun bytes i m cycles => Completes bytes i s cycles s (cmpFlags s.y m))

/-- INC and DEC write the operand plus or minus one, modulo 2^8, back to its address; INX, INY, DEX, DEY do so to a
register; N and Z from the result. -/
def Obligations.IncrementsAndDecrementsWrap : Prop :=
  ∀ s : State,
    (let P := fun bytes i ea cycles =>
      let r := incByte (memRead s ea); Stores bytes i s cycles ea r id (nz r)
     FourForms s (0xE6, .incZp) (0xF6, .incZpx) (0xEE, .incAbs) (0xFE, .incAbsx) P) ∧
    (let P := fun bytes i ea cycles =>
      let r := decByte (memRead s ea); Stores bytes i s cycles ea r id (nz r)
     FourForms s (0xC6, .decZp) (0xD6, .decZpx) (0xCE, .decAbs) (0xDE, .decAbsx) P) ∧
    Completes [0xE8] .inx s 2 { s with x := incByte s.x } (nz (incByte s.x)) ∧
    Completes [0xC8] .iny s 2 { s with y := incByte s.y } (nz (incByte s.y)) ∧
    Completes [0xCA] .dex s 2 { s with x := decByte s.x } (nz (decByte s.x)) ∧
    Completes [0x88] .dey s 2 { s with y := decByte s.y } (nz (decByte s.y))

/-- ASL, LSR, ROL, ROR on A and on memory: the shifted byte, C the bit shifted out, N and Z from the result. -/
def Obligations.ShiftsMoveOneBit : Prop :=
  ∀ s : State,
    let c := getFlag s.f .C
    let M : (Byte → Byte) → (Byte → Bool) → List Byte → Instr → Word → Nat → Prop := fun res out bytes i ea cycles =>
      let v := memRead s ea
      Stores bytes i s cycles ea (res v) id ((.C, out v) :: nz (res v))
    let A : (Byte → Byte) → (Byte → Bool) → Byte → Instr → Prop := fun res out op i =>
      Completes [op] i s 2 { s with a := res s.a } ((.C, out s.a) :: nz (res s.a))
    (A aslByte topBit 0x0A .aslAcc ∧
      FourForms s (0x06, .aslZp) (0x16, .aslZpx) (0x0E, .aslAbs) (0x1E, .aslAbsx) (M aslByte topBit)) ∧
    (A lsrByte lowBit 0x4A .lsrAcc ∧
      FourForms s (0x46, .lsrZp) (0x56, .lsrZpx) (0x4E, .lsrAbs) (0x5E, .lsrAbsx) (M lsrByte lowBit)) ∧
    (A (rolByte · c) topBit 0x2A .rolAcc ∧
      FourForms s (0x26, .rolZp) (0x36, .rolZpx) (0x2E, .rolAbs) (0x3E, .rolAbsx) (M (rolByte · c) topBit)) ∧
    (A (rorByte · c) lowBit 0x6A .rorAcc ∧
      FourForms s (0x66, .rorZp) (0x76, .rorZpx) (0x6E, .rorAbs) (0x7E, .rorAbsx) (M (rorByte · c) lowBit))

/-- JMP goes to its word, or to the word at its pointer, whose second byte is read from the same page; JSR pushes the
address before the next instruction, high byte first, and goes to its word; RTS pulls an address and goes one past
it. JSR's two bytes lie at different addresses, the high one first written. -/
def Obligations.JumpsAndSubroutinesMovePc : Prop :=
  ∀ (s : State) (l h : Byte),
    let w := wordOf h l
    Completes [0x4C, l, h] (.jmpAbs w) s 3 { s with pc := w } [] ∧
    Completes [0x6C, l, h] (.jmpInd w) s 5
      { s with pc := wordOf (memRead s (wordOf h (l + 1))) (memRead s w) } [] ∧
    (decode [0x20, l, h] = .ok (.jsr w) [] ∧
      let ret := s.pc - 1
      ∃ t, exec (.jsr w) s = .next t ∧ t.remaining + 1 = 6 ∧
        t = { memWrite (stackAddr (s.sp - 1)) (lo ret) (memWrite (stackAddr s.sp) (hi ret) s) with
              sp := s.sp - 2, pc := w, remaining := t.remaining } ∧
        (∀ addr, addr ≠ stackAddr s.sp → addr ≠ stackAddr (s.sp - 1) → memRead t addr = memRead s addr) ∧
        (Memory.wf s.mem → inRam s (stackAddr s.sp) = true → memRead t (stackAddr s.sp) = hi ret) ∧
        (Memory.wf s.mem → inRam s (stackAddr (s.sp - 1)) = true → memRead t (stackAddr (s.sp - 1)) = lo ret)) ∧
    Completes [0x60] .rts s 6
      { s with
        sp := s.sp + 2
        pc := BitVec.ofNat 16 ((memRead s (stackAddr (s.sp + 1))).toNat +
          256 * (memRead s (stackAddr (s.sp + 2))).toNat + 1) } []

/-- The eight branches: each tests its flag; a branch not taken takes 2 ticks and only those; a taken one goes to PC
plus the signed displacement in 3 ticks, 4 across a page. The page test against the next instruction's address is
the spec's own choice (92_eei_decisions.md D9). -/
def Obligations.BranchesTestTheirFlag : Prop :=
  Branches 0x10 .bpl .N false ∧ Branches 0x30 .bmi .N true ∧ Branches 0x50 .bvc .V false ∧
  Branches 0x70 .bvs .V true ∧ Branches 0x90 .bcc .C false ∧ Branches 0xB0 .bcs .C true ∧
  Branches 0xD0 .bne .Z false ∧ Branches 0xF0 .beq .Z true

/-- NOP changes nothing; each flag instruction writes exactly its one flag. -/
def Obligations.FlagInstructionsWriteOneFlag : Prop :=
  ∀ s : State,
    Completes [0xEA] .nop s 2 s [] ∧ Completes [0x18] .clc s 2 s [(.C, false)] ∧
    Completes [0x38] .sec s 2 s [(.C, true)] ∧ Completes [0x58] .cli s 2 s [(.I, false)] ∧
    Completes [0x78] .sei s 2 s [(.I, true)] ∧ Completes [0xB8] .clv s 2 s [(.V, false)] ∧
    Completes [0xD8] .cld s 2 s [(.D, false)] ∧ Completes [0xF8] .sed s 2 s [(.D, true)]

/-- BRK sets B, pushes nothing and moves PC no further than past itself; run from a ready core, it leaves the core
halted after its 7 ticks and for every tick after them. BRK's meaning is the spec's own choice
(92_eei_decisions.md D10, D11). -/
def Obligations.BrkHaltsTheCore : Prop :=
  (∀ s : State, Completes [0x00] .brk s 7 s [(.B, true)]) ∧
  ∀ (s : State) (n : Nat), Ready s → memRead s s.pc = 0x00 → 7 ≤ n →
    ∃ t, ticks n s = .next t ∧ Halted t ∧ t = { s with pc := s.pc + 1, f := t.f } ∧
      FlagsWritten s.f t.f [(.B, true)]

/-- SLO, RLA, SRE, RRA, DCP, ISC: the first step's byte is written back and the second step acts with it. -/
def Obligations.CombinedInstructionsWriteBackThenAct : Prop :=
  ∀ s : State,
    let c := getFlag s.f .C
    SevenForms s (0x07, .sloZp) (0x17, .sloZpx) (0x0F, .sloAbs) (0x1F, .sloAbsx) (0x1B, .sloAbsy) (0x03, .sloIndx)
      (0x13, .sloIndy) (fun bytes i ea cycles =>
        let m := memRead s ea; let r := aslByte m; let a := s.a ||| r
        Stores bytes i s cycles ea r (fun t => { t with a := a }) ((.C, topBit m) :: nz a)) ∧
    SevenForms s (0x27, .rlaZp) (0x37, .rlaZpx) (0x2F, .rlaAbs) (0x3F, .rlaAbsx) (0x3B, .rlaAbsy) (0x23, .rlaIndx)
      (0x33, .rlaIndy) (fun bytes i ea cycles =>
        let m := memRead s ea; let r := rolByte m c; let a := s.a &&& r
        Stores bytes i s cycles ea r (fun t => { t with a := a }) ((.C, topBit m) :: nz a)) ∧
    SevenForms s (0x47, .sreZp) (0x57, .sreZpx) (0x4F, .sreAbs) (0x5F, .sreAbsx) (0x5B, .sreAbsy) (0x43, .sreIndx)
      (0x53, .sreIndy) (fun bytes i ea cycles =>
        let m := memRead s ea; let r := lsrByte m; let a := s.a ^^^ r
        Stores bytes i s cycles ea r (fun t => { t with a := a }) ((.C, lowBit m) :: nz a)) ∧
    SevenForms s (0x67, .rraZp) (0x77, .rraZpx) (0x6F, .rraAbs) (0x7F, .rraAbsx) (0x7B, .rraAbsy) (0x63, .rraIndx)
      (0x73, .rraIndy) (fun bytes i ea cycles =>
        let m := memRead s ea; let r := rorByte m c
        Stores bytes i s cycles ea r (fun t => { t with a := addResult s.a r (lowBit m) })
          (addFlags s.a r (lowBit m))) ∧
    SevenForms s (0xC7, .dcpZp) (0xD7, .dcpZpx) (0xCF, .dcpAbs) (0xDF, .dcpAbsx) (0xDB, .dcpAbsy) (0xC3, .dcpIndx)
      (0xD3, .dcpIndy) (fun bytes i ea cycles =>
        let r := decByte (memRead s ea)
        Stores bytes i s cycles ea r id (cmpFlags s.a r)) ∧
    SevenForms s (0xE7, .iscZp) (0xF7, .iscZpx) (0xEF, .iscAbs) (0xFF, .iscAbsx) (0xFB, .iscAbsy) (0xE3, .iscIndx)
      (0xF3, .iscIndy) (fun bytes i ea cycles =>
        let r := incByte (memRead s ea)
        Stores bytes i s cycles ea r (fun t => { t with a := addResult s.a (complement r) c })
          (addFlags s.a (complement r) c))

/-- On RAM a combined instruction does in one what its two documented instructions do one after the other, in the forms
all three share. -/
def Obligations.CombinedInstructionsAreCompositions : Prop :=
  ComposesInRam (.sloZp, .sloZpx, .sloAbs, .sloAbsx) (.aslZp, .aslZpx, .aslAbs, .aslAbsx)
    (.oraZp, .oraZpx, .oraAbs, .oraAbsx) ∧
  ComposesInRam (.rlaZp, .rlaZpx, .rlaAbs, .rlaAbsx) (.rolZp, .rolZpx, .rolAbs, .rolAbsx)
    (.andZp, .andZpx, .andAbs, .andAbsx) ∧
  ComposesInRam (.sreZp, .sreZpx, .sreAbs, .sreAbsx) (.lsrZp, .lsrZpx, .lsrAbs, .lsrAbsx)
    (.eorZp, .eorZpx, .eorAbs, .eorAbsx) ∧
  ComposesInRam (.rraZp, .rraZpx, .rraAbs, .rraAbsx) (.rorZp, .rorZpx, .rorAbs, .rorAbsx)
    (.adcZp, .adcZpx, .adcAbs, .adcAbsx) ∧
  ComposesInRam (.dcpZp, .dcpZpx, .dcpAbs, .dcpAbsx) (.decZp, .decZpx, .decAbs, .decAbsx)
    (.cmpZp, .cmpZpx, .cmpAbs, .cmpAbsx) ∧
  ComposesInRam (.iscZp, .iscZpx, .iscAbs, .iscAbsx) (.incZp, .incZpx, .incAbs, .incAbsx)
    (.sbcZp, .sbcZpx, .sbcAbs, .sbcAbsx)

/-- A subroutine that leaves the stack as it found it returns to the instruction after its JSR. -/
def Obligations.ReturnGoesToTheInstructionAfterTheCall : Prop :=
  ∀ (s : State) (w : Word), Memory.wf s.mem → inRam s (stackAddr s.sp) = true →
    inRam s (stackAddr (s.sp - 1)) = true →
    ∃ t, exec (.jsr w) s = .next t ∧
      ∀ u : State, u.sp = t.sp → u.regions = t.regions →
        memRead u (stackAddr s.sp) = memRead t (stackAddr s.sp) →
        memRead u (stackAddr (s.sp - 1)) = memRead t (stackAddr (s.sp - 1)) →
        ∃ v, exec .rts u = .next v ∧ v.pc = s.pc ∧ v.sp = s.sp

/-- Nine rotations, left or right, restore A and the carry. -/
def Obligations.NineRotationsRestoreTheByte : Prop :=
  ∀ s : State,
    let nine : Instr → State → Result := fun i s =>
      (List.replicate 9 i).foldl (fun r j => match r with | .next t => exec j t | r => r) (.next s)
    ∀ i, i = .rolAcc ∨ i = .rorAcc → ∃ t, nine i s = .next t ∧ t.a = s.a ∧ getFlag t.f .C = getFlag s.f .C

/-! ## Rules about every instruction -/

/-- Which instructions can change each register and flag at all (10_state.md R21 to R29); B is changed by BRK only, to
1, and U by none. -/
def Obligations.RegistersChangeOnlyByTheirWriters : Prop :=
  ∀ (i : Instr) (s t : State), exec i s = .next t →
    (t.a ≠ s.a → mnemonicOf i ∈ writesA ∨ (mnemonicOf i ∈ shifts ∧ modeOf i = .acc)) ∧
    (t.x ≠ s.x → mnemonicOf i ∈ writesX) ∧ (t.y ≠ s.y → mnemonicOf i ∈ writesY) ∧
    (t.sp ≠ s.sp → mnemonicOf i ∈ writesS) ∧
    (getFlag t.f .C ≠ getFlag s.f .C → mnemonicOf i ∈ writesC) ∧
    (getFlag t.f .Z ≠ getFlag s.f .Z ∨ getFlag t.f .N ≠ getFlag s.f .N → mnemonicOf i ∈ writesNZ) ∧
    (getFlag t.f .V ≠ getFlag s.f .V → mnemonicOf i ∈ writesV) ∧
    (getFlag t.f .I ≠ getFlag s.f .I → mnemonicOf i ∈ ["CLI", "SEI", "PLP", "RTI"]) ∧
    (getFlag t.f .D ≠ getFlag s.f .D → mnemonicOf i ∈ ["CLD", "SED", "PLP", "RTI"]) ∧
    getFlag t.f .B = (getFlag s.f .B || decide (i = .brk)) ∧ getFlag t.f .U = getFlag s.f .U

/-- D and I are plain storage: but for PHP, which pushes them, changing one before an instruction changes nothing
after it but that flag itself. -/
def Obligations.DecimalAndInterruptFlagsAreOnlyStored : Prop :=
  ∀ (i : Instr) (k : Flag) (b : Bool) (s t : State), i ≠ .php → k = .D ∨ k = .I → exec i s = .next t →
    ∃ u, exec i (setFlag k b s) = .next u ∧ SameBut k t u

/-- No instruction and no step changes the regions, the notes, the frame clock or the warnings, and no instruction
raises a fault. -/
def Obligations.InstructionsLeaveTheHostsStateAlone : Prop :=
  (∀ (i : Instr) (s t : State), exec i s = .next t →
    t.regions = s.regions ∧ t.notes = s.notes ∧ t.frame = s.frame ∧ t.warnings = s.warnings ∧
    t.faultState = s.faultState) ∧
  (∀ s t : State, step s = .next t →
    t.regions = s.regions ∧ t.notes = s.notes ∧ t.frame = s.frame ∧ t.warnings = s.warnings)

/-! ## The voice bank -/

/-- A latch holds the whole byte last poked into it; the fields of a voice are read from its seven latches. The layout
is the spec's own choice (92_eei_decisions.md D30, D31). -/
def Obligations.LatchesHoldWhatWasPoked : Prop :=
  ∀ (s : State) (v : Voice) (b : Byte),
    (∀ i, i ≤ 24 → ∀ j (h : j < 25), (poke i b s).reg[j] = if j = i then b else s.reg[j]) ∧
    (∀ i, 24 < i → poke i b s = s) ∧
    (∀ i, poke i b s = { s with reg := (poke i b s).reg }) ∧
    let r : Fin 7 → Nat := fun o => (latch s v o).toNat
    (∀ o : Fin 7, s.reg[7 * v.val + o.val]? = some (latch s v o)) ∧
    (freq s v).toNat = 256 * r 1 + r 0 ∧ (pulseWidth s v).toNat = r 3 % 16 * 256 + r 2 ∧
    (gate s v = true ↔ r 4 % 2 = 1) ∧ (waveBits s v).toNat = r 4 / 16 ∧
    (attackNib s v).toNat = r 5 / 16 ∧ (decayNib s v).toNat = r 5 % 16 ∧
    (sustainNib s v).toNat = r 6 / 16 ∧ (releaseNib s v).toNat = r 6 % 16

/-- Under the default map STA absolute to $D400 + i latches A in register i, changes no other latch and no byte that
reads back, and the address still reads $00 (92_eei_decisions.md D19, D20). -/
def Obligations.StoreToTheSidSinkLatches : Prop :=
  ∀ (s : State) (i : Nat), s.regions = Config.memoryMap → i ≤ 24 →
    ∃ t, exec (.staAbs (BitVec.ofNat 16 (0xD400 + i))) s = .next t ∧ t.mem = s.mem ∧
      memRead t (BitVec.ofNat 16 (0xD400 + i)) = 0 ∧
      ∀ j (h : j < 25), t.reg[j] = if j = i then s.a else s.reg[j]

/-! ## The note reconstructor -/

/-- The envelope tables in seconds; each decay and release entry is three times the attack entry. -/
def Obligations.EnvelopeTimesAreTheTables : Prop :=
  (∀ n : Nibble, attackTime n =
    secondsAt [2, 8, 16, 24, 38, 56, 68, 80, 100, 250, 500, 800, 1000, 3000, 5000, 8000] n.toNat) ∧
  (∀ n : Nibble, decayReleaseTime n =
    secondsAt [6, 24, 48, 72, 114, 168, 204, 240, 300, 750, 1500, 2400, 3000, 9000, 15000, 24000] n.toNat) ∧
  ∀ n : Nibble, decayReleaseTime n = 3 * attackTime n

/-- The pitch is the nearest semitone: the one integer n with 2^(2n - 139) ≤ r^24 < 2^(2n - 137), for every frequency
value and every clock. Frequency 0 has none. -/
def Obligations.PitchIsTheNearestSemitone : Prop :=
  ∀ clockHz raw : Nat, 0 < clockHz →
    pitch clockHz 0 = none ∧
    (0 < raw → ∀ n : Int, pitch clockHz raw = some n ↔
      (2 : ℚ) ^ (2 * n - 139) ≤ ((raw : ℚ) * clockHz / (440 * 2 ^ 24)) ^ 24 ∧
      ((raw : ℚ) * clockHz / (440 * 2 ^ 24)) ^ 24 < (2 : ℚ) ^ (2 * n - 137))

/-- One waveform bit names its waveform; none or several give noise and one warning with the voice, the frame and the
bits. -/
def Obligations.WaveformDecodeWarnsOnUnknownBits : Prop :=
  (waveformOf 0b0001 = .triangle ∧ waveformOf 0b0010 = .sawtooth ∧ waveformOf 0b0100 = .pulse ∧
    waveformOf 0b1000 = .noise) ∧
  ∀ (v : Voice) (f : Nat) (bits : Nibble),
    (bits ∈ [0b0001#4, 0b0010#4, 0b0100#4, 0b1000#4] → waveformWarnings v f bits = []) ∧
    (bits ∉ [0b0001#4, 0b0010#4, 0b0100#4, 0b1000#4] →
      waveformOf bits = .noise ∧ waveformWarnings v f bits = [⟨v, f, bits⟩])

/-- The release transition clips attack, decay and sustain to the elapsed time, writes nothing else but the status, and
leaves lengths that are not negative and add up to the elapsed time. The strict comparisons and the units are the
spec's own choice (92_eei_decisions.md D33, D39), the sum and the bounds are its own derivation, and the elapsed time
is a plain difference (notes/assumptions/13.md). -/
def Obligations.ReleaseClipsTheEnvelope : Prop :=
  ∀ (f : Nat) (o : Note), o.startFrame ≤ f → 0 ≤ o.attack → 0 ≤ o.decay →
    let e : ℚ := ((f : ℚ) - o.startFrame) / 50
    let r := releaseNote f o
    (e < o.attack → r = { o with attack := e, decay := 0, sustainLen := 0, status := .released f }) ∧
    (o.attack ≤ e → e < o.attack + o.decay →
      r = { o with decay := e - o.attack, sustainLen := 0, status := .released f }) ∧
    (o.attack + o.decay ≤ e → r = { o with sustainLen := e - o.attack - o.decay, status := .released f }) ∧
    r.attack + r.decay + r.sustainLen = e ∧ 0 ≤ r.attack ∧ 0 ≤ r.decay ∧ 0 ≤ r.sustainLen ∧
    r.attack ≤ o.attack ∧ r.decay ≤ o.decay

/-- The stop transition: a released record's release length becomes the lesser of itself and the time since the release
began; a sounding record is released and given release length 0; either is then stopped. Frames are converted to
seconds by the spec's own choice (92_eei_decisions.md D39). -/
def Obligations.StopClipsTheReleaseLength : Prop :=
  ∀ (f : Nat) (o : Note),
    (∀ rf, o.status = .released rf →
      stopNote f o = { o with release := min o.release (((f : ℚ) - rf) / 50), status := .stopped }) ∧
    (o.status = .sounding → stopNote f o = { releaseNote f o with release := 0, status := .stopped }) ∧
    (o.status = .stopped → stopNote f o = o)

/-- One voice's frame, case by case: a gate with frequency starts a note when none is open, goes on with a sounding one
and stops a released one before it starts a new one; the note takes its waveform and envelope from the latches, and a
changed pitch is appended as a bend; a clear gate releases a sounding note and leaves every other list alone; a gate
with frequency 0 does nothing (92_eei_decisions.md D27, D28). -/
def Obligations.FrameStepFollowsTheGate : Prop :=
  ∀ (s : State) (v : Voice) (before : List Note) (o : Note) (p : Int),
    let ns := notesOf s v
    let t := finishVoice v s
    let fresh : Note → Prop := fun n =>
      n.startFrame = s.frame ∧ n.pitch = p ∧ n.curPitch = p ∧ n.bends = [] ∧ n.status = .sounding ∧
      n.sustainLen = 0 ∧ n.waveform = waveformOf (waveBits s v) ∧ n.attack = attackTime (attackNib s v) ∧
      n.decay = decayReleaseTime (decayNib s v) ∧ n.release = decayReleaseTime (releaseNib s v)
    (gate s v = true → pitch Config.clockHz (freq s v).toNat = some p →
      t.warnings = s.warnings ++ waveformWarnings v s.frame (waveBits s v) ∧
      ((∀ q, ns.getLast? = some q → q.status = .stopped) → ∃ n, fresh n ∧ notesOf t v = ns ++ [n]) ∧
      (∀ rf, ns = before ++ [o] → o.status = .released rf →
        ∃ n, fresh n ∧ notesOf t v = before ++ [stopNote s.frame o, n]) ∧
      (ns = before ++ [o] → o.status = .sounding →
        notesOf t v = before ++ [{ o with
          waveform := waveformOf (waveBits s v)
          attack := attackTime (attackNib s v)
          decay := decayReleaseTime (decayNib s v)
          release := decayReleaseTime (releaseNib s v)
          bends := o.bends ++ (if p = o.curPitch then [] else [(s.frame, p)])
          curPitch := p }])) ∧
    (gate s v = true → (freq s v).toNat = 0 → t = s) ∧
    (gate s v = false → t.warnings = s.warnings ∧
      (ns = before ++ [o] → o.status = .sounding → notesOf t v = before ++ [releaseNote s.frame o]) ∧
      ((∀ q, ns.getLast? = some q → q.status ≠ .sounding) → notesOf t v = ns))

/-- A frame's end handles the three voices apart: each list is what its own step makes of it, the warnings of voice 0,
of voice 1 and of voice 2 are appended in that order, and nothing but the notes and the warnings changes. The order is
the spec's own choice (92_eei_decisions.md D46). -/
def Obligations.FrameEndHandlesVoicesApart : Prop :=
  ∀ s : State,
    (∀ v, notesOf (finishFrame s) v = notesOf (finishVoice v s) v) ∧
    (finishFrame s).warnings = s.warnings ++ voiceWarnings s 0 ++ voiceWarnings s 1 ++ voiceWarnings s 2 ∧
    finishFrame s = { s with notes := (finishFrame s).notes, warnings := (finishFrame s).warnings }

/-- Every frame keeps the reconstructor's invariants: at most the last record of a list is open, start frames rise, no
length is negative, bends and releases lie between start and the frame clock. A flush keeps them too. -/
def Obligations.FramesKeepTheReconstructorInvariant : Prop :=
  ∀ s : State, ReconstructorInv s →
    ReconstructorInv (advanceFrame (finishFrame s)) ∧ ReconstructorInv (flush s) ∧
    ∀ n t, ticks n s = .next t → ReconstructorInv t

/-- A stopped record stays where it is and as it is, and no record is ever removed. -/
def Obligations.StoppedRecordsNeverChange : Prop :=
  ∀ (s : State) (v : Voice),
    KeepsStopped (notesOf (finishFrame s) v) (notesOf s v) ∧ KeepsStopped (notesOf (flush s) v) (notesOf s v)

/-! ## The host -/

/-- Attaching appends a region; a load that does not fit or is not at the load address is faulted and writes nothing;
any other load copies the image: its bytes at RAM addresses read back, its bytes at SID addresses are poked, the last
one for a latch standing, its bytes at unmapped addresses are dropped, and nothing else changes. The load checks are
the spec's own choice (92_eei_decisions.md D19, D23); the refusal of a bad region is the model's
(notes/assumptions/10.md). -/
def Obligations.LoadChecksThenCopies : Prop :=
  ∀ (s : State) (loadBase base : Nat) (bytes : List Byte) (r : Region),
    (r.start ≤ r.stop → r.stop ≤ 0xFFFF → attach r s = .next { s with regions := s.regions ++ [r] }) ∧
    (0x10000 < base + bytes.length → load loadBase bytes base s =
      { s with faultState := some ⟨.loadOverflow, 0, 0, s.frame⟩ }) ∧
    (base + bytes.length ≤ 0x10000 → base ≠ loadBase → load loadBase bytes base s =
      { s with faultState := some ⟨.unsupportedLoadAddress, 0, 0, s.frame⟩ }) ∧
    (base + bytes.length ≤ 0x10000 → base = loadBase →
      let t := load loadBase bytes base s
      let at' : Nat → Word := fun k => BitVec.ofNat 16 (base + k)
      (Memory.wf s.mem → ∀ addr : Word, memRead t addr =
        if base ≤ addr.toNat ∧ addr.toNat < base + bytes.length ∧ inRam s addr = true then
          bytes.getD (addr.toNat - base) 0
        else memRead s addr) ∧
      (∀ addr : Word, inRam s addr = false → Memory.read t.mem addr.toNat = Memory.read s.mem addr.toNat) ∧
      (∀ j (h : j < 25),
        ((∀ k, k < bytes.length → ¬ Pokes s (at' k) j) → t.reg[j] = s.reg[j]) ∧
        (∀ k, k < bytes.length → Pokes s (at' k) j →
          (∀ n, k < n → n < bytes.length → ¬ Pokes s (at' n) j) → t.reg[j] = bytes.getD k 0)) ∧
      ((∀ k, k < bytes.length → regionAt s (at' k) = none) → t = s) ∧
      t = { s with mem := t.mem, reg := t.reg })

/-- A call gives the routine its A if there is one, pushes `P_RET_ADDR - 1`, enters at the address and clears the break
condition, and nothing else; an RTS with the stack as the call left it then goes to `P_RET_ADDR`. The protocol is the
spec's own choice (92_eei_decisions.md D24). -/
def Obligations.CalledRoutineReturnsToTheReturnAddress : Prop :=
  ∀ (s : State) (addr : Word) (a : Option Byte),
    let t := call addr a s
    t = { memWrite (stackAddr (s.sp - 1)) 0xFF (memWrite (stackAddr s.sp) 0xFF s) with
          a := a.getD s.a, sp := s.sp - 2, pc := addr, f := t.f } ∧
    FlagsWritten s.f t.f [(.B, false)] ∧
    (Memory.wf s.mem → inRam s (stackAddr s.sp) = true → inRam s (stackAddr (s.sp - 1)) = true →
      ∃ u, exec .rts t = .next u ∧ u.pc = Config.retAddr ∧ u.sp = s.sp)

/-- One frame of a run: the play routine is called only after frame 0 and only when the core is halted; the frame's
ticks are followed by one frame end and one advance of the clock; a fault ends the run with neither. The loop's
details are the spec's own choice (92_eei_decisions.md D26, D48). -/
def Obligations.DriverAlternatesTicksAndFrameEnds : Prop :=
  ∀ (cycles : Nat) (play : Word) (cancelAfter : Option Nat) (n k : Nat) (s t : State),
    (Faulted s → frames cycles play cancelAfter (n + 1) k s = .next (.faulted s)) ∧
    (s.faultState = none → ticks cycles (if 0 < k ∧ getFlag s.f .B = true then call play none s else s) = .next t →
      (Faulted t → frames cycles play cancelAfter (n + 1) k s = .next (.faulted t)) ∧
      (t.faultState = none →
        let u := advanceFrame (finishFrame t)
        (cancelAfter = some k →
          frames cycles play cancelAfter (n + 1) k s = .next (.cancelled (flush u))) ∧
        (cancelAfter ≠ some k →
          frames cycles play cancelAfter (n + 1) k s = frames cycles play cancelAfter n (k + 1) u))) ∧
    frames cycles play cancelAfter 0 k s = .next (.completed (flush s))

/-- Every run ends, in one of the three ways. A completed run has run all its frames without a fault and a cancelled
one those up to its last; of either, every record is stopped, start frames rise within each list, no length is negative,
and the output has the eight fields of each record and the warning log. A faulted run's output is its fault record. The
loop's details and the output of a faulted run are the spec's own choice (92_eei_decisions.md D26, D48); that a
cancellation for a frame never reached leaves the run completed is the model's (notes/assumptions/14.md). -/
def Obligations.RunsEndWithEveryRecordStopped : Prop :=
  ∀ (loadBase : Nat) (image : List Byte) (init play : Word) (nFrames : Nat) (cancelAfter : Option Nat),
    let good : State → Prop := fun s => s.faultState = none ∧
      ∀ v, NotesInv s.frame (notesOf s v) ∧ ∀ o ∈ notesOf s v, o.status = .stopped
    (∃ s, run loadBase image init play nFrames cancelAfter = .next (.completed s) ∧ good s ∧ s.frame = nFrames ∧
      OutputHolds s (outputOf (.completed s))) ∨
    (∃ s m, run loadBase image init play nFrames cancelAfter = .next (.cancelled s) ∧ good s ∧
      cancelAfter = some m ∧ m < nFrames ∧ s.frame = m + 1 ∧ OutputHolds s (outputOf (.cancelled s))) ∨
    (∃ s r, run loadBase image init play nFrames cancelAfter = .next (.faulted s) ∧ s.faultState = some r ∧
      outputOf (.faulted s) = .fault (some r))
end

