-- ==== Sys2Proof/Laws/Decode.lean ====
section
/-! SUPPORT. Byte order (20_memory.md R56, 30_encoding.md R71). -/

namespace Sys2Proof

/-- `h:l = l + 256*h` (30_encoding.md R71). -/
theorem wordOf_toNat (h l : Byte) : (wordOf h l).toNat = l.toNat + 256 * h.toNat := by
  have key : (h ++ l).toNat = h.toNat <<< 8 ||| l.toNat := BitVec.toNat_append h l
  show (h ++ l).toNat = _
  rw [key, Nat.shiftLeft_eq, Nat.mul_comm h.toNat, ← Nat.two_pow_add_eq_or_of_lt l.isLt]
  omega

theorem lo_toNat (w : Word) : (lo w).toNat = w.toNat % 256 := by simp [lo]

theorem hi_toNat (w : Word) : (hi w).toNat = w.toNat / 256 := by
  have := w.isLt
  simp [hi, Nat.shiftRight_eq_div_pow]
  omega

@[simp] theorem lo_wordOf (h l : Byte) : lo (wordOf h l) = l := by
  apply BitVec.eq_of_toNat_eq
  have := l.isLt
  rw [lo_toNat, wordOf_toNat]; omega

@[simp] theorem hi_wordOf (h l : Byte) : hi (wordOf h l) = h := by
  apply BitVec.eq_of_toNat_eq
  have := l.isLt
  rw [hi_toNat, wordOf_toNat]; omega

@[simp] theorem wordOf_hi_lo (w : Word) : wordOf (hi w) (lo w) = w := by
  apply BitVec.eq_of_toNat_eq
  rw [wordOf_toNat, hi_toNat, lo_toNat]; omega

end Sys2Proof
end

