-- ==== Sys2Proof/Laws/State.lean ====
section
/-! SUPPORT. One lemma per field per update: what each named update of the state does to each field. -/

namespace Sys2Proof.Machine

variable (s : State) (k : Flag) (b : Bool) (v : Byte) (w addr : Word) (n : Nat)

@[simp] theorem setA_a : (setA v s).a = v := rfl
@[simp] theorem setA_x : (setA v s).x = s.x := rfl
@[simp] theorem setA_y : (setA v s).y = s.y := rfl
@[simp] theorem setA_sp : (setA v s).sp = s.sp := rfl
@[simp] theorem setA_pc : (setA v s).pc = s.pc := rfl
@[simp] theorem setA_f : (setA v s).f = s.f := rfl
@[simp] theorem setA_remaining : (setA v s).remaining = s.remaining := rfl
@[simp] theorem setA_regions : (setA v s).regions = s.regions := rfl
@[simp] theorem setA_mem : (setA v s).mem = s.mem := rfl
@[simp] theorem setA_reg : (setA v s).reg = s.reg := rfl
@[simp] theorem setA_notes : (setA v s).notes = s.notes := rfl
@[simp] theorem setA_frame : (setA v s).frame = s.frame := rfl
@[simp] theorem setA_warnings : (setA v s).warnings = s.warnings := rfl
@[simp] theorem setA_faultState : (setA v s).faultState = s.faultState := rfl

@[simp] theorem setX_a : (setX v s).a = s.a := rfl
@[simp] theorem setX_x : (setX v s).x = v := rfl
@[simp] theorem setX_y : (setX v s).y = s.y := rfl
@[simp] theorem setX_sp : (setX v s).sp = s.sp := rfl
@[simp] theorem setX_pc : (setX v s).pc = s.pc := rfl
@[simp] theorem setX_f : (setX v s).f = s.f := rfl
@[simp] theorem setX_remaining : (setX v s).remaining = s.remaining := rfl
@[simp] theorem setX_regions : (setX v s).regions = s.regions := rfl
@[simp] theorem setX_mem : (setX v s).mem = s.mem := rfl
@[simp] theorem setX_reg : (setX v s).reg = s.reg := rfl
@[simp] theorem setX_notes : (setX v s).notes = s.notes := rfl
@[simp] theorem setX_frame : (setX v s).frame = s.frame := rfl
@[simp] theorem setX_warnings : (setX v s).warnings = s.warnings := rfl
@[simp] theorem setX_faultState : (setX v s).faultState = s.faultState := rfl

@[simp] theorem setY_a : (setY v s).a = s.a := rfl
@[simp] theorem setY_x : (setY v s).x = s.x := rfl
@[simp] theorem setY_y : (setY v s).y = v := rfl
@[simp] theorem setY_sp : (setY v s).sp = s.sp := rfl
@[simp] theorem setY_pc : (setY v s).pc = s.pc := rfl
@[simp] theorem setY_f : (setY v s).f = s.f := rfl
@[simp] theorem setY_remaining : (setY v s).remaining = s.remaining := rfl
@[simp] theorem setY_regions : (setY v s).regions = s.regions := rfl
@[simp] theorem setY_mem : (setY v s).mem = s.mem := rfl
@[simp] theorem setY_reg : (setY v s).reg = s.reg := rfl
@[simp] theorem setY_notes : (setY v s).notes = s.notes := rfl
@[simp] theorem setY_frame : (setY v s).frame = s.frame := rfl
@[simp] theorem setY_warnings : (setY v s).warnings = s.warnings := rfl
@[simp] theorem setY_faultState : (setY v s).faultState = s.faultState := rfl

@[simp] theorem setSp_a : (setSp v s).a = s.a := rfl
@[simp] theorem setSp_x : (setSp v s).x = s.x := rfl
@[simp] theorem setSp_y : (setSp v s).y = s.y := rfl
@[simp] theorem setSp_sp : (setSp v s).sp = v := rfl
@[simp] theorem setSp_pc : (setSp v s).pc = s.pc := rfl
@[simp] theorem setSp_f : (setSp v s).f = s.f := rfl
@[simp] theorem setSp_remaining : (setSp v s).remaining = s.remaining := rfl
@[simp] theorem setSp_regions : (setSp v s).regions = s.regions := rfl
@[simp] theorem setSp_mem : (setSp v s).mem = s.mem := rfl
@[simp] theorem setSp_reg : (setSp v s).reg = s.reg := rfl
@[simp] theorem setSp_notes : (setSp v s).notes = s.notes := rfl
@[simp] theorem setSp_frame : (setSp v s).frame = s.frame := rfl
@[simp] theorem setSp_warnings : (setSp v s).warnings = s.warnings := rfl
@[simp] theorem setSp_faultState : (setSp v s).faultState = s.faultState := rfl

@[simp] theorem setPc_a : (setPc w s).a = s.a := rfl
@[simp] theorem setPc_x : (setPc w s).x = s.x := rfl
@[simp] theorem setPc_y : (setPc w s).y = s.y := rfl
@[simp] theorem setPc_sp : (setPc w s).sp = s.sp := rfl
@[simp] theorem setPc_pc : (setPc w s).pc = w := rfl
@[simp] theorem setPc_f : (setPc w s).f = s.f := rfl
@[simp] theorem setPc_remaining : (setPc w s).remaining = s.remaining := rfl
@[simp] theorem setPc_regions : (setPc w s).regions = s.regions := rfl
@[simp] theorem setPc_mem : (setPc w s).mem = s.mem := rfl
@[simp] theorem setPc_reg : (setPc w s).reg = s.reg := rfl
@[simp] theorem setPc_notes : (setPc w s).notes = s.notes := rfl
@[simp] theorem setPc_frame : (setPc w s).frame = s.frame := rfl
@[simp] theorem setPc_warnings : (setPc w s).warnings = s.warnings := rfl
@[simp] theorem setPc_faultState : (setPc w s).faultState = s.faultState := rfl

@[simp] theorem setF_a : (setF v s).a = s.a := rfl
@[simp] theorem setF_x : (setF v s).x = s.x := rfl
@[simp] theorem setF_y : (setF v s).y = s.y := rfl
@[simp] theorem setF_sp : (setF v s).sp = s.sp := rfl
@[simp] theorem setF_pc : (setF v s).pc = s.pc := rfl
@[simp] theorem setF_f : (setF v s).f = v := rfl
@[simp] theorem setF_remaining : (setF v s).remaining = s.remaining := rfl
@[simp] theorem setF_regions : (setF v s).regions = s.regions := rfl
@[simp] theorem setF_mem : (setF v s).mem = s.mem := rfl
@[simp] theorem setF_reg : (setF v s).reg = s.reg := rfl
@[simp] theorem setF_notes : (setF v s).notes = s.notes := rfl
@[simp] theorem setF_frame : (setF v s).frame = s.frame := rfl
@[simp] theorem setF_warnings : (setF v s).warnings = s.warnings := rfl
@[simp] theorem setF_faultState : (setF v s).faultState = s.faultState := rfl

@[simp] theorem setCycles_a : (setCycles n s).a = s.a := rfl
@[simp] theorem setCycles_x : (setCycles n s).x = s.x := rfl
@[simp] theorem setCycles_y : (setCycles n s).y = s.y := rfl
@[simp] theorem setCycles_sp : (setCycles n s).sp = s.sp := rfl
@[simp] theorem setCycles_pc : (setCycles n s).pc = s.pc := rfl
@[simp] theorem setCycles_f : (setCycles n s).f = s.f := rfl
@[simp] theorem setCycles_remaining : (setCycles n s).remaining = n - 1 := rfl
@[simp] theorem setCycles_regions : (setCycles n s).regions = s.regions := rfl
@[simp] theorem setCycles_mem : (setCycles n s).mem = s.mem := rfl
@[simp] theorem setCycles_reg : (setCycles n s).reg = s.reg := rfl
@[simp] theorem setCycles_notes : (setCycles n s).notes = s.notes := rfl
@[simp] theorem setCycles_frame : (setCycles n s).frame = s.frame := rfl
@[simp] theorem setCycles_warnings : (setCycles n s).warnings = s.warnings := rfl
@[simp] theorem setCycles_faultState : (setCycles n s).faultState = s.faultState := rfl

@[simp] theorem setNZ_a : (setNZ v s).a = s.a := rfl
@[simp] theorem setNZ_x : (setNZ v s).x = s.x := rfl
@[simp] theorem setNZ_y : (setNZ v s).y = s.y := rfl
@[simp] theorem setNZ_sp : (setNZ v s).sp = s.sp := rfl
@[simp] theorem setNZ_pc : (setNZ v s).pc = s.pc := rfl
@[simp] theorem setNZ_f : (setNZ v s).f = withNZ s.f v := rfl
@[simp] theorem setNZ_remaining : (setNZ v s).remaining = s.remaining := rfl
@[simp] theorem setNZ_regions : (setNZ v s).regions = s.regions := rfl
@[simp] theorem setNZ_mem : (setNZ v s).mem = s.mem := rfl
@[simp] theorem setNZ_reg : (setNZ v s).reg = s.reg := rfl
@[simp] theorem setNZ_notes : (setNZ v s).notes = s.notes := rfl
@[simp] theorem setNZ_frame : (setNZ v s).frame = s.frame := rfl
@[simp] theorem setNZ_warnings : (setNZ v s).warnings = s.warnings := rfl
@[simp] theorem setNZ_faultState : (setNZ v s).faultState = s.faultState := rfl

@[simp] theorem setFlag_a : (setFlag k b s).a = s.a := rfl
@[simp] theorem setFlag_x : (setFlag k b s).x = s.x := rfl
@[simp] theorem setFlag_y : (setFlag k b s).y = s.y := rfl
@[simp] theorem setFlag_sp : (setFlag k b s).sp = s.sp := rfl
@[simp] theorem setFlag_pc : (setFlag k b s).pc = s.pc := rfl
@[simp] theorem setFlag_f : (setFlag k b s).f = putFlag s.f k b := rfl
@[simp] theorem setFlag_remaining : (setFlag k b s).remaining = s.remaining := rfl
@[simp] theorem setFlag_regions : (setFlag k b s).regions = s.regions := rfl
@[simp] theorem setFlag_mem : (setFlag k b s).mem = s.mem := rfl
@[simp] theorem setFlag_reg : (setFlag k b s).reg = s.reg := rfl
@[simp] theorem setFlag_notes : (setFlag k b s).notes = s.notes := rfl
@[simp] theorem setFlag_frame : (setFlag k b s).frame = s.frame := rfl
@[simp] theorem setFlag_warnings : (setFlag k b s).warnings = s.warnings := rfl
@[simp] theorem setFlag_faultState : (setFlag k b s).faultState = s.faultState := rfl

/-! A poke changes the latches only; a memory write changes RAM and the latches only. -/

@[simp] theorem poke_a : (poke n v s).a = s.a := by unfold poke; split <;> rfl
@[simp] theorem poke_x : (poke n v s).x = s.x := by unfold poke; split <;> rfl
@[simp] theorem poke_y : (poke n v s).y = s.y := by unfold poke; split <;> rfl
@[simp] theorem poke_sp : (poke n v s).sp = s.sp := by unfold poke; split <;> rfl
@[simp] theorem poke_pc : (poke n v s).pc = s.pc := by unfold poke; split <;> rfl
@[simp] theorem poke_f : (poke n v s).f = s.f := by unfold poke; split <;> rfl
@[simp] theorem poke_remaining : (poke n v s).remaining = s.remaining := by unfold poke; split <;> rfl
@[simp] theorem poke_regions : (poke n v s).regions = s.regions := by unfold poke; split <;> rfl
@[simp] theorem poke_mem : (poke n v s).mem = s.mem := by unfold poke; split <;> rfl
@[simp] theorem poke_notes : (poke n v s).notes = s.notes := by unfold poke; split <;> rfl
@[simp] theorem poke_frame : (poke n v s).frame = s.frame := by unfold poke; split <;> rfl
@[simp] theorem poke_warnings : (poke n v s).warnings = s.warnings := by unfold poke; split <;> rfl
@[simp] theorem poke_faultState : (poke n v s).faultState = s.faultState := by unfold poke; split <;> rfl

@[simp] theorem memWrite_a : (memWrite addr v s).a = s.a := by
  unfold memWrite; split
  · split <;> simp
  · rfl
@[simp] theorem memWrite_x : (memWrite addr v s).x = s.x := by
  unfold memWrite; split
  · split <;> simp
  · rfl
@[simp] theorem memWrite_y : (memWrite addr v s).y = s.y := by
  unfold memWrite; split
  · split <;> simp
  · rfl
@[simp] theorem memWrite_sp : (memWrite addr v s).sp = s.sp := by
  unfold memWrite; split
  · split <;> simp
  · rfl
@[simp] theorem memWrite_pc : (memWrite addr v s).pc = s.pc := by
  unfold memWrite; split
  · split <;> simp
  · rfl
@[simp] theorem memWrite_f : (memWrite addr v s).f = s.f := by
  unfold memWrite; split
  · split <;> simp
  · rfl
@[simp] theorem memWrite_remaining : (memWrite addr v s).remaining = s.remaining := by
  unfold memWrite; split
  · split <;> simp
  · rfl
@[simp] theorem memWrite_regions : (memWrite addr v s).regions = s.regions := by
  unfold memWrite; split
  · split <;> simp
  · rfl
@[simp] theorem memWrite_notes : (memWrite addr v s).notes = s.notes := by
  unfold memWrite; split
  · split <;> simp
  · rfl
@[simp] theorem memWrite_frame : (memWrite addr v s).frame = s.frame := by
  unfold memWrite; split
  · split <;> simp
  · rfl
@[simp] theorem memWrite_warnings : (memWrite addr v s).warnings = s.warnings := by
  unfold memWrite; split
  · split <;> simp
  · rfl
@[simp] theorem memWrite_faultState : (memWrite addr v s).faultState = s.faultState := by
  unfold memWrite; split
  · split <;> simp
  · rfl

@[simp] theorem push_a : (push v s).a = s.a := by simp [push]
@[simp] theorem push_x : (push v s).x = s.x := by simp [push]
@[simp] theorem push_y : (push v s).y = s.y := by simp [push]
@[simp] theorem push_sp : (push v s).sp = s.sp - 1#8 := by simp [push]
@[simp] theorem push_pc : (push v s).pc = s.pc := by simp [push]
@[simp] theorem push_f : (push v s).f = s.f := by simp [push]
@[simp] theorem push_remaining : (push v s).remaining = s.remaining := by simp [push]
@[simp] theorem push_regions : (push v s).regions = s.regions := by simp [push]
@[simp] theorem push_notes : (push v s).notes = s.notes := by simp [push]
@[simp] theorem push_frame : (push v s).frame = s.frame := by simp [push]
@[simp] theorem push_warnings : (push v s).warnings = s.warnings := by simp [push]
@[simp] theorem push_faultState : (push v s).faultState = s.faultState := by simp [push]

@[simp] theorem pull_snd_a : (pull s).2.a = s.a := rfl
@[simp] theorem pull_snd_x : (pull s).2.x = s.x := rfl
@[simp] theorem pull_snd_y : (pull s).2.y = s.y := rfl
@[simp] theorem pull_snd_sp : (pull s).2.sp = s.sp + 1#8 := rfl
@[simp] theorem pull_snd_pc : (pull s).2.pc = s.pc := rfl
@[simp] theorem pull_snd_f : (pull s).2.f = s.f := rfl
@[simp] theorem pull_snd_remaining : (pull s).2.remaining = s.remaining := rfl
@[simp] theorem pull_snd_regions : (pull s).2.regions = s.regions := rfl
@[simp] theorem pull_snd_mem : (pull s).2.mem = s.mem := rfl
@[simp] theorem pull_snd_reg : (pull s).2.reg = s.reg := rfl
@[simp] theorem pull_snd_notes : (pull s).2.notes = s.notes := rfl
@[simp] theorem pull_snd_frame : (pull s).2.frame = s.frame := rfl
@[simp] theorem pull_snd_warnings : (pull s).2.warnings = s.warnings := rfl
@[simp] theorem pull_snd_faultState : (pull s).2.faultState = s.faultState := rfl
@[simp] theorem pull_fst : (pull s).1 = memRead s (stackAddr (s.sp + 1#8)) := rfl

@[simp] theorem fetchByte_fst : (fetchByte s).1 = memRead s s.pc := rfl
@[simp] theorem fetchByte_snd : (fetchByte s).2 = setPc (s.pc + 1#16) s := rfl

end Sys2Proof.Machine
end

