-- ==== Sys2Proof/Laws/Flags.lean ====
section
/-! SUPPORT. What each flag computation leaves in each flag (10_state.md R22 to R29). -/

namespace Sys2Proof.Machine

/-- A flag byte is made of its eight flags (10_state.md R22). -/
theorem flags_ext {f g : Byte} (h : ∀ k, getFlag f k = getFlag g k) : f = g := by
  apply BitVec.eq_of_getLsbD_eq
  intro i hi
  have h0 := h .C; have h1 := h .Z; have h2 := h .I; have h3 := h .D
  have h4 := h .B; have h5 := h .U; have h6 := h .V; have h7 := h .N
  simp only [getFlag, flagBit] at h0 h1 h2 h3 h4 h5 h6 h7
  have : i = 0 ∨ i = 1 ∨ i = 2 ∨ i = 3 ∨ i = 4 ∨ i = 5 ∨ i = 6 ∨ i = 7 := by omega
  rcases this with rfl | rfl | rfl | rfl | rfl | rfl | rfl | rfl <;> assumption

theorem flagBit_injective : Function.Injective flagBit := by
  intro a b h; cases a <;> cases b <;> first | rfl | (simp [flagBit] at h)

theorem flagBit_lt (k : Flag) : flagBit k < 8 := by cases k <;> decide

/-- A mask holds its own flag's bit and no other. -/
theorem getFlag_flagMask (k j : Flag) : getFlag (flagMask k) j = decide (j = k) := by
  cases k <;> cases j <;> decide

/-- Reading a flag after one flag was written. -/
@[simp] theorem getFlag_putFlag (f : Byte) (k j : Flag) (v : Bool) :
    getFlag (putFlag f k v) j = if j = k then v else getFlag f j := by
  have hm := getFlag_flagMask k j
  have hj := flagBit_lt j
  unfold getFlag at hm
  cases v <;> by_cases hjk : j = k <;> simp_all [getFlag, putFlag]

/-- `SetNZ(v)` writes N and Z and no other flag (00_scope.md R10). -/
@[simp] theorem getFlag_withNZ (f v : Byte) (j : Flag) :
    getFlag (withNZ f v) j = if j = .Z then v == 0#8 else if j = .N then v.msb else getFlag f j := by
  simp [withNZ]

/-- PHP's byte has B and U set and every other flag of F (42_stack.md R132). -/
@[simp] theorem getFlag_pushedFlags (f : Byte) (j : Flag) :
    getFlag (pushedFlags f) j = if j = .B ∨ j = .U then true else getFlag f j := by
  cases j <;> simp [getFlag, pushedFlags, flagBit]

/-- A pull keeps B and U and takes every other flag from the pulled byte (42_stack.md R134). -/
@[simp] theorem getFlag_pulledFlags (f v : Byte) (j : Flag) :
    getFlag (pulledFlags f v) j = if j = .B ∨ j = .U then getFlag f j else getFlag v j := by
  cases j <;> simp [getFlag, pulledFlags, flagBit]

/-- ADC writes C, V, N and Z (43_alu.md R140). -/
@[simp] theorem getFlag_adcFlags (f a m : Byte) (j : Flag) :
    getFlag (adcFlags f a m) j =
      if j = .Z then adcResult a m (getFlag f .C) == 0#8
      else if j = .N then (adcResult a m (getFlag f .C)).msb
      else if j = .V then adcOverflow a m (adcResult a m (getFlag f .C))
      else if j = .C then adcCarry a m (getFlag f .C)
      else getFlag f j := by
  simp [adcFlags]

/-- A comparison writes N, Z and C (43_alu.md R146). -/
@[simp] theorem getFlag_compareFlags (f r m : Byte) (j : Flag) :
    getFlag (compareFlags f r m) j =
      if j = .C then decide (m.toNat ≤ r.toNat)
      else if j = .Z then r == m
      else if j = .N then (r - m).msb
      else getFlag f j := by
  simp [compareFlags]

/-- BIT writes Z, N and V (43_alu.md R145). -/
@[simp] theorem getFlag_bitFlags (f a m : Byte) (j : Flag) :
    getFlag (bitFlags f a m) j =
      if j = .V then m.getLsbD 6
      else if j = .N then m.getLsbD 7
      else if j = .Z then (a &&& m) == 0#8
      else getFlag f j := by
  simp [bitFlags]

/-- The add's result as a number (43_alu.md R140). -/
theorem adcResult_toNat (a m : Byte) (c : Bool) : (adcResult a m c).toNat = adcSum a m c % 256 := by
  simp [adcResult]

/-- The sum lies in 0 to 511 (43_alu.md R140). -/
theorem adcSum_lt (a m : Byte) (c : Bool) : adcSum a m c < 512 := by
  have := a.isLt; have := m.isLt
  cases c <;> simp [adcSum] <;> omega

/-- Bit 8 of the sum is set exactly when the sum reaches 256 (43_alu.md R140). -/
theorem adcCarry_eq (a m : Byte) (c : Bool) : adcCarry a m c = decide (256 ≤ adcSum a m c) := by
  have h := adcSum_lt a m c
  unfold adcCarry
  generalize adcSum a m c = n at h
  rw [Nat.testBit_eq_decide_div_mod_eq]
  congr 1
  simp only [eq_iff_iff]
  omega

end Sys2Proof.Machine
end

