-- ==== Sys2Proof/Laws/Memory.lean ====
section
/-! SUPPORT. The canonical form of RAM is kept, and reads see writes (20_memory.md R52 to R54). -/

namespace Sys2Proof.Machine

theorem Memory.wf_nil : Memory.wf [] := by decide

theorem Memory.wf_tail {c : Host.Cell} {m : Memory} (h : Memory.wf (c :: m)) : Memory.wf m :=
  ⟨(List.pairwise_cons.mp h.1).2, fun d hd => h.2 d (List.mem_cons_of_mem _ hd)⟩

/-- A write adds no address but its own. -/
theorem Memory.mem_write {m : Memory} {addr : Nat} {v : Byte} {c : Host.Cell}
    (h : c ∈ Memory.write m addr v) : c ∈ m ∨ c = (addr, v) ∧ v ≠ Config.ramInit := by
  induction m with
  | nil =>
    simp only [Memory.write] at h
    split at h
    · simp at h
    · rename_i hv; exact .inr ⟨by simpa using h, hv⟩
  | cons d m ih =>
    simp only [Memory.write] at h
    split at h
    · split at h
      · exact .inl h
      · rename_i hv
        rcases List.mem_cons.mp h with h | h
        · exact .inr ⟨h, hv⟩
        · exact .inl h
    · split at h
      · split at h
        · exact .inl (List.mem_cons_of_mem _ h)
        · rename_i hv
          rcases List.mem_cons.mp h with h | h
          · exact .inr ⟨h, hv⟩
          · exact .inl (List.mem_cons_of_mem _ h)
      · rcases List.mem_cons.mp h with h | h
        · exact .inl (h ▸ List.mem_cons_self)
        · exact (ih h).imp (List.mem_cons_of_mem _) id

/-- A write keeps the canonical form. -/
theorem Memory.wf_write {m : Memory} {addr : Nat} (v : Byte) (hm : Memory.wf m) (ha : addr < 0x10000) :
    Memory.wf (Memory.write m addr v) := by
  refine ⟨?_, fun c hc => ?_⟩
  · induction m with
    | nil => simp only [Memory.write]; split <;> simp
    | cons d m ih =>
      have hd := List.pairwise_cons.mp hm.1
      simp only [Memory.write]
      split
      · split
        · exact hm.1
        · rename_i hlt _
          refine List.pairwise_cons.mpr ⟨fun c hc => ?_, hm.1⟩
          rcases List.mem_cons.mp hc with rfl | hc
          · exact hlt
          · exact Nat.lt_trans hlt (hd.1 c hc)
      · split
        · rename_i heq
          split
          · exact hd.2
          · exact List.pairwise_cons.mpr ⟨fun c hc => heq ▸ hd.1 c hc, hd.2⟩
        · rename_i hlt hne
          refine List.pairwise_cons.mpr ⟨fun c hc => ?_, ih (Memory.wf_tail hm)⟩
          rcases Memory.mem_write hc with hc | ⟨rfl, _⟩
          · exact hd.1 c hc
          · show d.1 < addr; omega
  · rcases Memory.mem_write hc with hc | ⟨rfl, hv⟩
    · exact hm.2 c hc
    · exact ⟨ha, hv⟩

/-- An address below every listed one reads as RAM nothing has written. -/
theorem Memory.read_below {m : Memory} {addr : Nat} (h : ∀ c ∈ m, addr < c.1) :
    Memory.read m addr = Config.ramInit := by
  induction m with
  | nil => rfl
  | cons d m ih =>
    have hd := h d List.mem_cons_self
    simp only [Memory.read]
    rw [if_neg (by omega), ih fun c hc => h c (List.mem_cons_of_mem _ hc)]

/-- The written address reads as the written byte, in canonical RAM. -/
theorem Memory.read_write_same {m : Memory} (addr : Nat) (v : Byte) (hm : Memory.wf m) :
    Memory.read (Memory.write m addr v) addr = v := by
  induction m with
  | nil => simp only [Memory.write]; split <;> simp_all [Memory.read]
  | cons d m ih =>
    have hd := List.pairwise_cons.mp hm.1
    simp only [Memory.write]
    split
    · rename_i hlt
      split
      · rename_i hv
        rw [hv]
        refine Memory.read_below fun c hc => ?_
        rcases List.mem_cons.mp hc with rfl | hc
        · exact hlt
        · exact Nat.lt_trans hlt (hd.1 c hc)
      · simp [Memory.read]
    · split
      · rename_i heq
        split
        · rename_i hv
          rw [hv]
          exact Memory.read_below fun c hc => heq ▸ hd.1 c hc
        · simp [Memory.read]
      · rename_i hlt hne
        simp only [Memory.read]
        rw [if_neg (by omega), ih (Memory.wf_tail hm)]

/-- Every other address reads as before. -/
theorem Memory.read_write_other {m : Memory} {addr other : Nat} (v : Byte) (h : other ≠ addr) :
    Memory.read (Memory.write m addr v) other = Memory.read m other := by
  induction m with
  | nil => simp only [Memory.write]; split <;> simp [Memory.read, h.symm]
  | cons d m ih =>
    simp only [Memory.write]
    split
    · split
      · rfl
      · simp [Memory.read, h.symm]
    · split
      · rename_i heq
        split
        · simp only [Memory.read]; rw [if_neg (by omega)]
        · simp only [Memory.read]; rw [if_neg (by omega), if_neg (by omega)]
      · simp only [Memory.read]; split <;> simp_all

/-- Reset's RAM is in canonical form. -/
theorem reset_memory_wf : Memory.wf State.reset.mem := by decide

/-! ## The address space -/

@[simp] theorem regionAt_memWrite (addr other : Word) (v : Byte) (s : State) :
    regionAt (memWrite addr v s) other = regionAt s other := by simp [regionAt]

/-- A write through the address space is one of: a byte stored in RAM, a latch poked, nothing. -/
theorem memWrite_cases (addr : Word) (v : Byte) (s : State) :
    (∃ r, regionAt s addr = some r ∧ r.kind = .ram ∧
      memWrite addr v s = { s with mem := Memory.write s.mem addr.toNat v }) ∨
    (∃ r, regionAt s addr = some r ∧ r.kind = .sid ∧ memWrite addr v s = poke (addr.toNat - r.start) v s) ∨
    (regionAt s addr = none ∧ memWrite addr v s = s) := by
  unfold memWrite
  cases hr : regionAt s addr with
  | none => exact .inr (.inr ⟨rfl, by simp⟩)
  | some r =>
    cases hk : r.kind with
    | ram => exact .inl ⟨r, rfl, hk, by simp [hk]⟩
    | sid => exact .inr (.inl ⟨r, rfl, hk, by simp [hk]⟩)

/-- What a write does to memory and latches does not depend on the registers or the tick count. -/
theorem memWrite_registers (addr : Word) (v : Byte) (s : State) (a x y sp f : Byte) (pc : Word) (n : Nat) :
    memWrite addr v { s with a := a, x := x, y := y, sp := sp, f := f, pc := pc, remaining := n } =
      { memWrite addr v s with a := a, x := x, y := y, sp := sp, f := f, pc := pc, remaining := n } := by
  show (match regionAt s addr with | some r => _ | none => _) = _
  unfold memWrite
  cases regionAt s addr with
  | none => rfl
  | some r =>
    cases hk : r.kind with
    | ram => simp [hk]
    | sid => simp only [hk, poke]; split <;> rfl

/-- A write after S changed (the second byte of JSR and of a call) is S changed after the write. -/
theorem memWrite_setSp (addr : Word) (v sp : Byte) (s : State) :
    memWrite addr v (setSp sp s) = setSp sp (memWrite addr v s) := by
  have h := memWrite_registers addr v s s.a s.x s.y sp s.f s.pc s.remaining
  simpa [setSp] using h

/-- A write after F changed is F changed after the write. -/
theorem memWrite_setF (addr : Word) (v f : Byte) (s : State) :
    memWrite addr v (setF f s) = setF f (memWrite addr v s) := by
  have h := memWrite_registers addr v s s.a s.x s.y s.sp f s.pc s.remaining
  simpa [setF] using h

/-- A write through the address space keeps RAM canonical. -/
theorem memWrite_keeps_wf {addr : Word} {v : Byte} {s : State} (h : Memory.wf s.mem) :
    Memory.wf (memWrite addr v s).mem := by
  rcases memWrite_cases addr v s with ⟨r, -, -, e⟩ | ⟨r, -, -, e⟩ | ⟨-, e⟩ <;> rw [e]
  · exact Memory.wf_write v h addr.isLt
  · simpa using h
  · exact h

/-- A poke keeps RAM as it is. -/
theorem poke_keeps_wf {i : Nat} {v : Byte} {s : State} (h : Memory.wf s.mem) : Memory.wf (poke i v s).mem := by
  simpa using h

/-- A push keeps RAM canonical. -/
theorem push_keeps_wf {v : Byte} {s : State} (h : Memory.wf s.mem) : Memory.wf (push v s).mem :=
  memWrite_keeps_wf h

/-- Placing bytes keeps RAM canonical. -/
theorem placeBytes_keeps_wf {bs : List Byte} {addr : Word} {m : Memory} (h : Memory.wf m) :
    Memory.wf (placeBytes bs addr m) := by
  induction bs generalizing addr m with
  | nil => exact h
  | cons b bs ih => exact ih (Memory.wf_write b h addr.isLt)

/-- A load's copy loop keeps RAM canonical. -/
theorem copyBytes_keeps_wf {bs : List Byte} {addr : Nat} {s : State} (h : Memory.wf s.mem) :
    Memory.wf (copyBytes bs addr s).mem := by
  induction bs generalizing addr s with
  | nil => exact h
  | cons b bs ih => exact ih (memWrite_keeps_wf h)

/-- A load's copy loop changes RAM and the latches at most (70_reset_and_hazards.md R292). -/
theorem copyBytes_keeps (bs : List Byte) (addr : Nat) (s : State) :
    copyBytes bs addr s = { s with mem := (copyBytes bs addr s).mem, reg := (copyBytes bs addr s).reg } := by
  induction bs generalizing addr s with
  | nil => rfl
  | cons b bs ih => exact (ih _ _).trans (by simp [copyBytes])

/-- What an address reads as depends only on the regions and on RAM at that address. -/
theorem memRead_congr {s t : State} {addr : Word} (hr : t.regions = s.regions)
    (hm : Memory.read t.mem addr.toNat = Memory.read s.mem addr.toNat) : memRead t addr = memRead s addr := by
  unfold memRead regionAt; rw [hr, hm]

/-- Every address but the one written reads as before. -/
theorem memRead_memWrite_other {addr other : Word} {v : Byte} {s : State} (h : other ≠ addr) :
    memRead (memWrite addr v s) other = memRead s other := by
  refine memRead_congr (by simp) ?_
  rcases memWrite_cases addr v s with ⟨r, -, -, e⟩ | ⟨r, -, -, e⟩ | ⟨-, e⟩ <;> rw [e]
  · exact Memory.read_write_other v fun heq => h (BitVec.eq_of_toNat_eq heq)
  · simp

/-- A RAM address reads as the byte written to it. -/
theorem memRead_memWrite_ram {addr : Word} {v : Byte} {s : State} {r : Region} (hm : Memory.wf s.mem)
    (hr : regionAt s addr = some r) (hk : r.kind = .ram) : memRead (memWrite addr v s) addr = v := by
  rcases memWrite_cases addr v s with ⟨r', -, -, e⟩ | ⟨r', hr', hk', -⟩ | ⟨hn, -⟩
  · have : regionAt (memWrite addr v s) addr = some r := by simpa using hr
    unfold memRead
    rw [this]
    simp only [hk]
    rw [e]
    exact Memory.read_write_same _ v hm
  · rw [hr] at hr'; cases hr'; rw [hk] at hk'; cases hk'
  · rw [hr] at hn; cases hn

end Sys2Proof.Machine
end

