-- ==== Sys2Proof/Laws/Notes.lean ====
section
/-! SUPPORT. What the reconstructor's operations do (51_note_reconstructor.md R240 to R252). -/

namespace Sys2Proof.Machine

/-- An open note is the list's last record and is not stopped (51_note_reconstructor.md R241). -/
theorem openNote_eq_some {ns : List Note} {o : Note} :
    openNote ns = some o ↔ ns = ns.dropLast ++ [o] ∧ o.status ≠ .stopped := by
  unfold openNote
  constructor
  · intro h
    split at h
    · rename_i p hp
      split at h
      · cases h
      · rename_i hs
        cases h
        exact ⟨(List.dropLast_append_getLast? _ hp).symm, hs⟩
    · cases h
  · rintro ⟨h, hs⟩
    rw [h]
    simp [hs]

/-- There is no open note exactly when the list is empty or its last record is stopped. -/
theorem openNote_eq_none {ns : List Note} :
    openNote ns = none ↔ ∀ o, ns.getLast? = some o → o.status = .stopped := by
  unfold openNote
  split
  · rename_i p hp
    split <;> simp_all
  · rename_i hn
    simp [hn]

@[simp] theorem notesOf_setNotes_same (v : Voice) (ns : List Note) (s : State) :
    notesOf (setNotes v ns s) v = ns := by simp [notesOf, setNotes]

theorem notesOf_setNotes_other {v w : Voice} (h : w ≠ v) (ns : List Note) (s : State) :
    notesOf (setNotes v ns s) w = notesOf s w := by
  have hv : v.val ≠ w.val := fun e => h (Fin.ext e.symm)
  simp [notesOf, setNotes, hv]

/-- The clipping of the release transition keeps everything but the three lengths. -/
theorem clipEnvelope_keeps (e : Rat) (o : Note) :
    clipEnvelope e o =
      { o with attack := (clipEnvelope e o).attack, decay := (clipEnvelope e o).decay,
               sustainLen := (clipEnvelope e o).sustainLen } := by
  unfold clipEnvelope; split
  · rfl
  · split <;> rfl

/-- A stop leaves the record stopped (51_note_reconstructor.md R249). -/
@[simp] theorem stopNote_status (f : Nat) (o : Note) : (stopNote f o).status = .stopped := by
  unfold stopNote; split <;> simp_all [clipRelease]

/-- A stop keeps the start frame. -/
@[simp] theorem stopNote_startFrame (f : Nat) (o : Note) : (stopNote f o).startFrame = o.startFrame := by
  unfold stopNote; split
  · rfl
  · simp only [releaseNote]; rw [clipEnvelope_keeps]
  · rfl

/-- A release keeps the start frame. -/
@[simp] theorem releaseNote_startFrame (f : Nat) (o : Note) : (releaseNote f o).startFrame = o.startFrame := by
  simp only [releaseNote]; rw [clipEnvelope_keeps]

/-- A release marks the record with its frame (51_note_reconstructor.md R248). -/
@[simp] theorem releaseNote_status (f : Nat) (o : Note) : (releaseNote f o).status = .released f := rfl

/-- A refresh keeps what the latches do not give (51_note_reconstructor.md R244). -/
@[simp] theorem refreshNote_startFrame (s : State) (v : Voice) (p : Int) (o : Note) :
    (refreshNote s v p o).startFrame = o.startFrame := rfl
@[simp] theorem refreshNote_status (s : State) (v : Voice) (p : Int) (o : Note) :
    (refreshNote s v p o).status = o.status := rfl
@[simp] theorem refreshNote_sustainLen (s : State) (v : Voice) (p : Int) (o : Note) :
    (refreshNote s v p o).sustainLen = o.sustainLen := rfl
@[simp] theorem refreshNote_pitch (s : State) (v : Voice) (p : Int) (o : Note) :
    (refreshNote s v p o).pitch = o.pitch := rfl

@[simp] theorem outputNote_startFrame (o : Note) : (outputNote o).startFrame = o.startFrame := rfl
@[simp] theorem outputNote_pitch (o : Note) : (outputNote o).pitch = o.pitch := rfl
@[simp] theorem outputNote_waveform (o : Note) : (outputNote o).waveform = o.waveform := rfl
@[simp] theorem outputNote_attack (o : Note) : (outputNote o).attack = o.attack := rfl
@[simp] theorem outputNote_decay (o : Note) : (outputNote o).decay = o.decay := rfl
@[simp] theorem outputNote_sustainLen (o : Note) : (outputNote o).sustainLen = o.sustainLen := rfl
@[simp] theorem outputNote_release (o : Note) : (outputNote o).release = o.release := rfl
@[simp] theorem outputNote_bends (o : Note) : (outputNote o).bends = o.bends := rfl

/-- The output does not depend on the status or the current pitch of a record (51_note_reconstructor.md R253). -/
theorem outputNote_drops_status_and_curPitch (o : Note) (st : NoteStatus) (p : Int) :
    outputNote { o with status := st, curPitch := p } = outputNote o := rfl

/-- A voice's list of the output is its note list, record by record. -/
@[simp] theorem outputNotes_voice (s : State) (v : Voice) : (outputNotes s)[v.val] = (notesOf s v).map outputNote := by
  simp [outputNotes, notesOf]

/-- A voice's step writes the note lists and the warnings at most (51_note_reconstructor.md R242). -/
theorem finishVoice_keeps (v : Voice) (s : State) :
    finishVoice v s = { s with notes := (finishVoice v s).notes, warnings := (finishVoice v s).warnings } := by
  unfold finishVoice; split
  · split <;> rfl
  · rfl

/-- A voice's step leaves every other voice's list alone (51_note_reconstructor.md R242). -/
theorem notesOf_finishVoice_other {v w : Voice} (h : w ≠ v) (s : State) :
    notesOf (finishVoice v s) w = notesOf s w := by
  unfold finishVoice; split
  · split
    · exact notesOf_setNotes_other h _ _
    · rfl
  · exact notesOf_setNotes_other h _ _

/-- Raw frequency 0, and no other, has no pitch (51_note_reconstructor.md R243). -/
theorem pitch_eq_none (clockHz raw : Nat) : pitch clockHz raw = none ↔ raw = 0 := by
  unfold pitch; split <;> simp_all

end Sys2Proof.Machine
end

