-- ==== Sys2Proof/Laws/Ops.lean ====
section
/-! SUPPORT. One lemma per shared operation that says everything it does, so that a proof about an instruction need not
unfold it. -/

namespace Sys2Proof.Machine

/-- Loading A: A and the two flags, nothing else. -/
theorem loadA_eq (m : Byte) (s : State) : loadA m s = { s with a := m, f := withNZ s.f m } := rfl
/-- Loading X: X and the two flags, nothing else. -/
theorem loadX_eq (m : Byte) (s : State) : loadX m s = { s with x := m, f := withNZ s.f m } := rfl
/-- Loading Y: Y and the two flags, nothing else. -/
theorem loadY_eq (m : Byte) (s : State) : loadY m s = { s with y := m, f := withNZ s.f m } := rfl

/-- Adding: A and F, nothing else (43_alu.md R140). -/
theorem doAdc_eq (m : Byte) (s : State) :
    doAdc m s = { s with a := adcResult s.a m (getFlag s.f .C), f := adcFlags s.f s.a m } := rfl

/-- Subtracting is adding the complement (43_alu.md R141). -/
theorem doSbc_eq (m : Byte) (s : State) : doSbc m s = doAdc (~~~ m) s := rfl

/-- Comparing: F only (43_alu.md R146). -/
theorem doCompare_eq (r m : Byte) (s : State) : doCompare r m s = { s with f := compareFlags s.f r m } := rfl

/-- Bit test: F only (43_alu.md R145). -/
theorem doBit_eq (m : Byte) (s : State) : doBit m s = { s with f := bitFlags s.f s.a m } := rfl

/-- An immediate operand reads no memory and writes none. -/
theorem immOp_eq (m : Byte) (base : Nat) (op : Byte → State → State) (s : State) :
    immOp m base op s = { op m s with remaining := base - 1 } := rfl

/-- A memory operand is read once; the tick count is the base and the page-cross indicator. -/
theorem readOp_eq (r : Resolved) (base : Nat) (op : Byte → State → State) (s : State) :
    readOp r base op s = { op (memRead s r.ea) s with remaining := base + r.penalty - 1 } := rfl

/-- A store writes one byte; no register or flag changes. -/
theorem storeOp_eq (r : Resolved) (base : Nat) (v : Byte) (s : State) :
    storeOp r base v s = { memWrite r.ea v s with remaining := base - 1 } := rfl

/-- A read-modify-write reads and writes the same address. -/
theorem rmwOp_eq (r : Resolved) (base : Nat) (f : Byte → State → Byte × State) (g : Byte → State → State)
    (s : State) :
    rmwOp r base f g s =
      { g (f (memRead s r.ea) s).1 (memWrite r.ea (f (memRead s r.ea) s).1 (f (memRead s r.ea) s).2) with
        remaining := base - 1 } := rfl

/-- The accumulator form reads and writes A. -/
theorem accOp_eq (f : Byte → State → Byte × State) (s : State) :
    accOp f s = { loadA (f s.a s).1 (f s.a s).2 with remaining := 1 } := rfl

/-- A branch writes PC and the tick count only. -/
theorem branchOp_cases (cond : Bool) (off : Byte) (s : State) :
    (cond = false ∧ branchOp cond off s = { s with remaining := 1 }) ∨
    (cond = true ∧ hi (s.pc + sext off) = hi s.pc ∧
      branchOp cond off s = { s with pc := s.pc + sext off, remaining := 2 }) ∨
    (cond = true ∧ hi (s.pc + sext off) ≠ hi s.pc ∧
      branchOp cond off s = { s with pc := s.pc + sext off, remaining := 3 }) := by
  cases cond with
  | false => exact .inl ⟨rfl, rfl⟩
  | true =>
    refine .inr ?_
    by_cases h : hi (s.pc + sext off) = hi s.pc
    · exact .inl ⟨rfl, h, by simp [branchOp, h, setCycles, setPc]⟩
    · exact .inr ⟨rfl, h, by simp [branchOp, h, setCycles, setPc]⟩

/-- The indicator is 0 or 1 (40_addressing.md R91). -/
theorem indexedEa_penalty (base : Word) (index : Byte) : (indexedEa base index).penalty ≤ 1 := by
  unfold indexedEa; dsimp only; split <;> omega

/-- A push stores at the address S names and decrements S (20_memory.md R60). -/
theorem push_eq (v : Byte) (s : State) :
    push v s = { memWrite (stackAddr s.sp) v s with sp := s.sp - 1#8 } := rfl

/-- A pull increments S and reads the address it then names (20_memory.md R61). -/
theorem pull_eq (s : State) : pull s = (memRead s (stackAddr (s.sp + 1#8)), { s with sp := s.sp + 1#8 }) := rfl

/-- What an address reads as does not depend on the registers or the tick count. -/
theorem memRead_registers (s : State) (a x y sp f : Byte) (pc : Word) (n : Nat) (addr : Word) :
    memRead { s with a := a, x := x, y := y, sp := sp, f := f, pc := pc, remaining := n } addr = memRead s addr :=
  rfl

/-- Raising a fault writes the fault state only (60_exceptions.md R270). -/
theorem raiseFault_eq (kind : Fault) (pc : Word) (op : Byte) (s : State) :
    raiseFault kind pc op s = { s with faultState := some ⟨kind, pc, op, s.frame⟩ } := rfl

/-- What one tick can do: nothing in a faulted or halted core, one tick used up inside an instruction, a dispatch in
a ready core (10_state.md R31). -/
theorem tick_cases (policy : IllegalPolicy) (s : State) :
    (s.faultState.isSome ∧ tick policy s = .next s) ∨
    (s.faultState = none ∧ 0 < s.remaining ∧ tick policy s = .next { s with remaining := s.remaining - 1 }) ∨
    (s.faultState = none ∧ s.remaining = 0 ∧ flag .B s = true ∧ tick policy s = .next s) ∨
    (s.faultState = none ∧ s.remaining = 0 ∧ flag .B s = false ∧ tick policy s = dispatchTick policy s) := by
  unfold tick
  by_cases hf : s.faultState.isSome
  · exact .inl ⟨hf, by simp [hf]⟩
  · have hn : s.faultState = none := by simpa using hf
    by_cases hr : 0 < s.remaining
    · exact .inr (.inl ⟨hn, hr, by simp [hn, hr]⟩)
    · have h0 : s.remaining = 0 := by omega
      cases hb : flag .B s with
      | true => exact .inr (.inr (.inl ⟨hn, h0, rfl, by simp [hn, h0]⟩))
      | false => exact .inr (.inr (.inr ⟨hn, h0, rfl, by simp [hn, h0]⟩))

end Sys2Proof.Machine
end

