-- ==== Sys2Proof/Laws/PerInstr.lean ====
section
/-! SUPPORT. Statements made of every instruction, one lemma per constructor. -/

namespace Sys2Proof.Laws.Encoding

/-- The encoding of an instruction starts with the opcode of a bound slot and is one byte longer than that slot's
operand byte count (30_encoding.md R70, R73). -/
def Statement (i : Instr) : Prop :=
  ∃ op bs t, encode i = op :: bs ∧ dispatch op = some t ∧ bs.length = t.operandBytes

theorem brk : Statement (.brk) := ⟨_, _, _, rfl, rfl, rfl⟩
theorem oraIndx (n : Byte) : Statement (.oraIndx n) := ⟨_, _, _, rfl, rfl, rfl⟩
theorem sloIndx (n : Byte) : Statement (.sloIndx n) := ⟨_, _, _, rfl, rfl, rfl⟩
theorem oraZp (n : Byte) : Statement (.oraZp n) := ⟨_, _, _, rfl, rfl, rfl⟩
theorem aslZp (n : Byte) : Statement (.aslZp n) := ⟨_, _, _, rfl, rfl, rfl⟩
theorem sloZp (n : Byte) : Statement (.sloZp n) := ⟨_, _, _, rfl, rfl, rfl⟩
theorem php : Statement (.php) := ⟨_, _, _, rfl, rfl, rfl⟩
theorem oraImm (n : Byte) : Statement (.oraImm n) := ⟨_, _, _, rfl, rfl, rfl⟩
theorem aslAcc : Statement (.aslAcc) := ⟨_, _, _, rfl, rfl, rfl⟩
theorem oraAbs (w : Word) : Statement (.oraAbs w) := ⟨_, _, _, rfl, rfl, rfl⟩
theorem aslAbs (w : Word) : Statement (.aslAbs w) := ⟨_, _, _, rfl, rfl, rfl⟩
theorem sloAbs (w : Word) : Statement (.sloAbs w) := ⟨_, _, _, rfl, rfl, rfl⟩
theorem bpl (off : Byte) : Statement (.bpl off) := ⟨_, _, _, rfl, rfl, rfl⟩
theorem oraIndy (n : Byte) : Statement (.oraIndy n) := ⟨_, _, _, rfl, rfl, rfl⟩
theorem sloIndy (n : Byte) : Statement (.sloIndy n) := ⟨_, _, _, rfl, rfl, rfl⟩
theorem oraZpx (n : Byte) : Statement (.oraZpx n) := ⟨_, _, _, rfl, rfl, rfl⟩
theorem aslZpx (n : Byte) : Statement (.aslZpx n) := ⟨_, _, _, rfl, rfl, rfl⟩
theorem sloZpx (n : Byte) : Statement (.sloZpx n) := ⟨_, _, _, rfl, rfl, rfl⟩
theorem clc : Statement (.clc) := ⟨_, _, _, rfl, rfl, rfl⟩
theorem oraAbsy (w : Word) : Statement (.oraAbsy w) := ⟨_, _, _, rfl, rfl, rfl⟩
theorem sloAbsy (w : Word) : Statement (.sloAbsy w) := ⟨_, _, _, rfl, rfl, rfl⟩
theorem oraAbsx (w : Word) : Statement (.oraAbsx w) := ⟨_, _, _, rfl, rfl, rfl⟩
theorem aslAbsx (w : Word) : Statement (.aslAbsx w) := ⟨_, _, _, rfl, rfl, rfl⟩
theorem sloAbsx (w : Word) : Statement (.sloAbsx w) := ⟨_, _, _, rfl, rfl, rfl⟩
theorem jsr (w : Word) : Statement (.jsr w) := ⟨_, _, _, rfl, rfl, rfl⟩
theorem andIndx (n : Byte) : Statement (.andIndx n) := ⟨_, _, _, rfl, rfl, rfl⟩
theorem rlaIndx (n : Byte) : Statement (.rlaIndx n) := ⟨_, _, _, rfl, rfl, rfl⟩
theorem bitZp (n : Byte) : Statement (.bitZp n) := ⟨_, _, _, rfl, rfl, rfl⟩
theorem andZp (n : Byte) : Statement (.andZp n) := ⟨_, _, _, rfl, rfl, rfl⟩
theorem rolZp (n : Byte) : Statement (.rolZp n) := ⟨_, _, _, rfl, rfl, rfl⟩
theorem rlaZp (n : Byte) : Statement (.rlaZp n) := ⟨_, _, _, rfl, rfl, rfl⟩
theorem plp : Statement (.plp) := ⟨_, _, _, rfl, rfl, rfl⟩
theorem andImm (n : Byte) : Statement (.andImm n) := ⟨_, _, _, rfl, rfl, rfl⟩
theorem rolAcc : Statement (.rolAcc) := ⟨_, _, _, rfl, rfl, rfl⟩
theorem bitAbs (w : Word) : Statement (.bitAbs w) := ⟨_, _, _, rfl, rfl, rfl⟩
theorem andAbs (w : Word) : Statement (.andAbs w) := ⟨_, _, _, rfl, rfl, rfl⟩
theorem rolAbs (w : Word) : Statement (.rolAbs w) := ⟨_, _, _, rfl, rfl, rfl⟩
theorem rlaAbs (w : Word) : Statement (.rlaAbs w) := ⟨_, _, _, rfl, rfl, rfl⟩
theorem bmi (off : Byte) : Statement (.bmi off) := ⟨_, _, _, rfl, rfl, rfl⟩
theorem andIndy (n : Byte) : Statement (.andIndy n) := ⟨_, _, _, rfl, rfl, rfl⟩
theorem rlaIndy (n : Byte) : Statement (.rlaIndy n) := ⟨_, _, _, rfl, rfl, rfl⟩
theorem andZpx (n : Byte) : Statement (.andZpx n) := ⟨_, _, _, rfl, rfl, rfl⟩
theorem rolZpx (n : Byte) : Statement (.rolZpx n) := ⟨_, _, _, rfl, rfl, rfl⟩
theorem rlaZpx (n : Byte) : Statement (.rlaZpx n) := ⟨_, _, _, rfl, rfl, rfl⟩
theorem sec : Statement (.sec) := ⟨_, _, _, rfl, rfl, rfl⟩
theorem andAbsy (w : Word) : Statement (.andAbsy w) := ⟨_, _, _, rfl, rfl, rfl⟩
theorem rlaAbsy (w : Word) : Statement (.rlaAbsy w) := ⟨_, _, _, rfl, rfl, rfl⟩
theorem andAbsx (w : Word) : Statement (.andAbsx w) := ⟨_, _, _, rfl, rfl, rfl⟩
theorem rolAbsx (w : Word) : Statement (.rolAbsx w) := ⟨_, _, _, rfl, rfl, rfl⟩
theorem rlaAbsx (w : Word) : Statement (.rlaAbsx w) := ⟨_, _, _, rfl, rfl, rfl⟩
theorem rti : Statement (.rti) := ⟨_, _, _, rfl, rfl, rfl⟩
theorem eorIndx (n : Byte) : Statement (.eorIndx n) := ⟨_, _, _, rfl, rfl, rfl⟩
theorem sreIndx (n : Byte) : Statement (.sreIndx n) := ⟨_, _, _, rfl, rfl, rfl⟩
theorem eorZp (n : Byte) : Statement (.eorZp n) := ⟨_, _, _, rfl, rfl, rfl⟩
theorem lsrZp (n : Byte) : Statement (.lsrZp n) := ⟨_, _, _, rfl, rfl, rfl⟩
theorem sreZp (n : Byte) : Statement (.sreZp n) := ⟨_, _, _, rfl, rfl, rfl⟩
theorem pha : Statement (.pha) := ⟨_, _, _, rfl, rfl, rfl⟩
theorem eorImm (n : Byte) : Statement (.eorImm n) := ⟨_, _, _, rfl, rfl, rfl⟩
theorem lsrAcc : Statement (.lsrAcc) := ⟨_, _, _, rfl, rfl, rfl⟩
theorem jmpAbs (w : Word) : Statement (.jmpAbs w) := ⟨_, _, _, rfl, rfl, rfl⟩
theorem eorAbs (w : Word) : Statement (.eorAbs w) := ⟨_, _, _, rfl, rfl, rfl⟩
theorem lsrAbs (w : Word) : Statement (.lsrAbs w) := ⟨_, _, _, rfl, rfl, rfl⟩
theorem sreAbs (w : Word) : Statement (.sreAbs w) := ⟨_, _, _, rfl, rfl, rfl⟩
theorem bvc (off : Byte) : Statement (.bvc off) := ⟨_, _, _, rfl, rfl, rfl⟩
theorem eorIndy (n : Byte) : Statement (.eorIndy n) := ⟨_, _, _, rfl, rfl, rfl⟩
theorem sreIndy (n : Byte) : Statement (.sreIndy n) := ⟨_, _, _, rfl, rfl, rfl⟩
theorem eorZpx (n : Byte) : Statement (.eorZpx n) := ⟨_, _, _, rfl, rfl, rfl⟩
theorem lsrZpx (n : Byte) : Statement (.lsrZpx n) := ⟨_, _, _, rfl, rfl, rfl⟩
theorem sreZpx (n : Byte) : Statement (.sreZpx n) := ⟨_, _, _, rfl, rfl, rfl⟩
theorem cli : Statement (.cli) := ⟨_, _, _, rfl, rfl, rfl⟩
theorem eorAbsy (w : Word) : Statement (.eorAbsy w) := ⟨_, _, _, rfl, rfl, rfl⟩
theorem sreAbsy (w : Word) : Statement (.sreAbsy w) := ⟨_, _, _, rfl, rfl, rfl⟩
theorem eorAbsx (w : Word) : Statement (.eorAbsx w) := ⟨_, _, _, rfl, rfl, rfl⟩
theorem lsrAbsx (w : Word) : Statement (.lsrAbsx w) := ⟨_, _, _, rfl, rfl, rfl⟩
theorem sreAbsx (w : Word) : Statement (.sreAbsx w) := ⟨_, _, _, rfl, rfl, rfl⟩
theorem rts : Statement (.rts) := ⟨_, _, _, rfl, rfl, rfl⟩
theorem adcIndx (n : Byte) : Statement (.adcIndx n) := ⟨_, _, _, rfl, rfl, rfl⟩
theorem rraIndx (n : Byte) : Statement (.rraIndx n) := ⟨_, _, _, rfl, rfl, rfl⟩
theorem adcZp (n : Byte) : Statement (.adcZp n) := ⟨_, _, _, rfl, rfl, rfl⟩
theorem rorZp (n : Byte) : Statement (.rorZp n) := ⟨_, _, _, rfl, rfl, rfl⟩
theorem rraZp (n : Byte) : Statement (.rraZp n) := ⟨_, _, _, rfl, rfl, rfl⟩
theorem pla : Statement (.pla) := ⟨_, _, _, rfl, rfl, rfl⟩
theorem adcImm (n : Byte) : Statement (.adcImm n) := ⟨_, _, _, rfl, rfl, rfl⟩
theorem rorAcc : Statement (.rorAcc) := ⟨_, _, _, rfl, rfl, rfl⟩
theorem jmpInd (w : Word) : Statement (.jmpInd w) := ⟨_, _, _, rfl, rfl, rfl⟩
theorem adcAbs (w : Word) : Statement (.adcAbs w) := ⟨_, _, _, rfl, rfl, rfl⟩
theorem rorAbs (w : Word) : Statement (.rorAbs w) := ⟨_, _, _, rfl, rfl, rfl⟩
theorem rraAbs (w : Word) : Statement (.rraAbs w) := ⟨_, _, _, rfl, rfl, rfl⟩
theorem bvs (off : Byte) : Statement (.bvs off) := ⟨_, _, _, rfl, rfl, rfl⟩
theorem adcIndy (n : Byte) : Statement (.adcIndy n) := ⟨_, _, _, rfl, rfl, rfl⟩
theorem rraIndy (n : Byte) : Statement (.rraIndy n) := ⟨_, _, _, rfl, rfl, rfl⟩
theorem adcZpx (n : Byte) : Statement (.adcZpx n) := ⟨_, _, _, rfl, rfl, rfl⟩
theorem rorZpx (n : Byte) : Statement (.rorZpx n) := ⟨_, _, _, rfl, rfl, rfl⟩
theorem rraZpx (n : Byte) : Statement (.rraZpx n) := ⟨_, _, _, rfl, rfl, rfl⟩
theorem sei : Statement (.sei) := ⟨_, _, _, rfl, rfl, rfl⟩
theorem adcAbsy (w : Word) : Statement (.adcAbsy w) := ⟨_, _, _, rfl, rfl, rfl⟩
theorem rraAbsy (w : Word) : Statement (.rraAbsy w) := ⟨_, _, _, rfl, rfl, rfl⟩
theorem adcAbsx (w : Word) : Statement (.adcAbsx w) := ⟨_, _, _, rfl, rfl, rfl⟩
theorem rorAbsx (w : Word) : Statement (.rorAbsx w) := ⟨_, _, _, rfl, rfl, rfl⟩
theorem rraAbsx (w : Word) : Statement (.rraAbsx w) := ⟨_, _, _, rfl, rfl, rfl⟩
theorem staIndx (n : Byte) : Statement (.staIndx n) := ⟨_, _, _, rfl, rfl, rfl⟩
theorem styZp (n : Byte) : Statement (.styZp n) := ⟨_, _, _, rfl, rfl, rfl⟩
theorem staZp (n : Byte) : Statement (.staZp n) := ⟨_, _, _, rfl, rfl, rfl⟩
theorem stxZp (n : Byte) : Statement (.stxZp n) := ⟨_, _, _, rfl, rfl, rfl⟩
theorem dey : Statement (.dey) := ⟨_, _, _, rfl, rfl, rfl⟩
theorem txa : Statement (.txa) := ⟨_, _, _, rfl, rfl, rfl⟩
theorem styAbs (w : Word) : Statement (.styAbs w) := ⟨_, _, _, rfl, rfl, rfl⟩
theorem staAbs (w : Word) : Statement (.staAbs w) := ⟨_, _, _, rfl, rfl, rfl⟩
theorem stxAbs (w : Word) : Statement (.stxAbs w) := ⟨_, _, _, rfl, rfl, rfl⟩
theorem bcc (off : Byte) : Statement (.bcc off) := ⟨_, _, _, rfl, rfl, rfl⟩
theorem staIndy (n : Byte) : Statement (.staIndy n) := ⟨_, _, _, rfl, rfl, rfl⟩
theorem styZpx (n : Byte) : Statement (.styZpx n) := ⟨_, _, _, rfl, rfl, rfl⟩
theorem staZpx (n : Byte) : Statement (.staZpx n) := ⟨_, _, _, rfl, rfl, rfl⟩
theorem stxZpy (n : Byte) : Statement (.stxZpy n) := ⟨_, _, _, rfl, rfl, rfl⟩
theorem tya : Statement (.tya) := ⟨_, _, _, rfl, rfl, rfl⟩
theorem staAbsy (w : Word) : Statement (.staAbsy w) := ⟨_, _, _, rfl, rfl, rfl⟩
theorem txs : Statement (.txs) := ⟨_, _, _, rfl, rfl, rfl⟩
theorem staAbsx (w : Word) : Statement (.staAbsx w) := ⟨_, _, _, rfl, rfl, rfl⟩
theorem ldyImm (n : Byte) : Statement (.ldyImm n) := ⟨_, _, _, rfl, rfl, rfl⟩
theorem ldaIndx (n : Byte) : Statement (.ldaIndx n) := ⟨_, _, _, rfl, rfl, rfl⟩
theorem ldxImm (n : Byte) : Statement (.ldxImm n) := ⟨_, _, _, rfl, rfl, rfl⟩
theorem ldyZp (n : Byte) : Statement (.ldyZp n) := ⟨_, _, _, rfl, rfl, rfl⟩
theorem ldaZp (n : Byte) : Statement (.ldaZp n) := ⟨_, _, _, rfl, rfl, rfl⟩
theorem ldxZp (n : Byte) : Statement (.ldxZp n) := ⟨_, _, _, rfl, rfl, rfl⟩
theorem tay : Statement (.tay) := ⟨_, _, _, rfl, rfl, rfl⟩
theorem ldaImm (n : Byte) : Statement (.ldaImm n) := ⟨_, _, _, rfl, rfl, rfl⟩
theorem tax : Statement (.tax) := ⟨_, _, _, rfl, rfl, rfl⟩
theorem ldyAbs (w : Word) : Statement (.ldyAbs w) := ⟨_, _, _, rfl, rfl, rfl⟩
theorem ldaAbs (w : Word) : Statement (.ldaAbs w) := ⟨_, _, _, rfl, rfl, rfl⟩
theorem ldxAbs (w : Word) : Statement (.ldxAbs w) := ⟨_, _, _, rfl, rfl, rfl⟩
theorem bcs (off : Byte) : Statement (.bcs off) := ⟨_, _, _, rfl, rfl, rfl⟩
theorem ldaIndy (n : Byte) : Statement (.ldaIndy n) := ⟨_, _, _, rfl, rfl, rfl⟩
theorem ldyZpx (n : Byte) : Statement (.ldyZpx n) := ⟨_, _, _, rfl, rfl, rfl⟩
theorem ldaZpx (n : Byte) : Statement (.ldaZpx n) := ⟨_, _, _, rfl, rfl, rfl⟩
theorem ldxZpy (n : Byte) : Statement (.ldxZpy n) := ⟨_, _, _, rfl, rfl, rfl⟩
theorem clv : Statement (.clv) := ⟨_, _, _, rfl, rfl, rfl⟩
theorem ldaAbsy (w : Word) : Statement (.ldaAbsy w) := ⟨_, _, _, rfl, rfl, rfl⟩
theorem tsx : Statement (.tsx) := ⟨_, _, _, rfl, rfl, rfl⟩
theorem ldyAbsx (w : Word) : Statement (.ldyAbsx w) := ⟨_, _, _, rfl, rfl, rfl⟩
theorem ldaAbsx (w : Word) : Statement (.ldaAbsx w) := ⟨_, _, _, rfl, rfl, rfl⟩
theorem ldxAbsy (w : Word) : Statement (.ldxAbsy w) := ⟨_, _, _, rfl, rfl, rfl⟩
theorem cpyImm (n : Byte) : Statement (.cpyImm n) := ⟨_, _, _, rfl, rfl, rfl⟩
theorem cmpIndx (n : Byte) : Statement (.cmpIndx n) := ⟨_, _, _, rfl, rfl, rfl⟩
theorem dcpIndx (n : Byte) : Statement (.dcpIndx n) := ⟨_, _, _, rfl, rfl, rfl⟩
theorem cpyZp (n : Byte) : Statement (.cpyZp n) := ⟨_, _, _, rfl, rfl, rfl⟩
theorem cmpZp (n : Byte) : Statement (.cmpZp n) := ⟨_, _, _, rfl, rfl, rfl⟩
theorem decZp (n : Byte) : Statement (.decZp n) := ⟨_, _, _, rfl, rfl, rfl⟩
theorem dcpZp (n : Byte) : Statement (.dcpZp n) := ⟨_, _, _, rfl, rfl, rfl⟩
theorem iny : Statement (.iny) := ⟨_, _, _, rfl, rfl, rfl⟩
theorem cmpImm (n : Byte) : Statement (.cmpImm n) := ⟨_, _, _, rfl, rfl, rfl⟩
theorem dex : Statement (.dex) := ⟨_, _, _, rfl, rfl, rfl⟩
theorem cpyAbs (w : Word) : Statement (.cpyAbs w) := ⟨_, _, _, rfl, rfl, rfl⟩
theorem cmpAbs (w : Word) : Statement (.cmpAbs w) := ⟨_, _, _, rfl, rfl, rfl⟩
theorem decAbs (w : Word) : Statement (.decAbs w) := ⟨_, _, _, rfl, rfl, rfl⟩
theorem dcpAbs (w : Word) : Statement (.dcpAbs w) := ⟨_, _, _, rfl, rfl, rfl⟩
theorem bne (off : Byte) : Statement (.bne off) := ⟨_, _, _, rfl, rfl, rfl⟩
theorem cmpIndy (n : Byte) : Statement (.cmpIndy n) := ⟨_, _, _, rfl, rfl, rfl⟩
theorem dcpIndy (n : Byte) : Statement (.dcpIndy n) := ⟨_, _, _, rfl, rfl, rfl⟩
theorem cmpZpx (n : Byte) : Statement (.cmpZpx n) := ⟨_, _, _, rfl, rfl, rfl⟩
theorem decZpx (n : Byte) : Statement (.decZpx n) := ⟨_, _, _, rfl, rfl, rfl⟩
theorem dcpZpx (n : Byte) : Statement (.dcpZpx n) := ⟨_, _, _, rfl, rfl, rfl⟩
theorem cld : Statement (.cld) := ⟨_, _, _, rfl, rfl, rfl⟩
theorem cmpAbsy (w : Word) : Statement (.cmpAbsy w) := ⟨_, _, _, rfl, rfl, rfl⟩
theorem dcpAbsy (w : Word) : Statement (.dcpAbsy w) := ⟨_, _, _, rfl, rfl, rfl⟩
theorem cmpAbsx (w : Word) : Statement (.cmpAbsx w) := ⟨_, _, _, rfl, rfl, rfl⟩
theorem decAbsx (w : Word) : Statement (.decAbsx w) := ⟨_, _, _, rfl, rfl, rfl⟩
theorem dcpAbsx (w : Word) : Statement (.dcpAbsx w) := ⟨_, _, _, rfl, rfl, rfl⟩
theorem cpxImm (n : Byte) : Statement (.cpxImm n) := ⟨_, _, _, rfl, rfl, rfl⟩
theorem sbcIndx (n : Byte) : Statement (.sbcIndx n) := ⟨_, _, _, rfl, rfl, rfl⟩
theorem iscIndx (n : Byte) : Statement (.iscIndx n) := ⟨_, _, _, rfl, rfl, rfl⟩
theorem cpxZp (n : Byte) : Statement (.cpxZp n) := ⟨_, _, _, rfl, rfl, rfl⟩
theorem sbcZp (n : Byte) : Statement (.sbcZp n) := ⟨_, _, _, rfl, rfl, rfl⟩
theorem incZp (n : Byte) : Statement (.incZp n) := ⟨_, _, _, rfl, rfl, rfl⟩
theorem iscZp (n : Byte) : Statement (.iscZp n) := ⟨_, _, _, rfl, rfl, rfl⟩
theorem inx : Statement (.inx) := ⟨_, _, _, rfl, rfl, rfl⟩
theorem sbcImm (n : Byte) : Statement (.sbcImm n) := ⟨_, _, _, rfl, rfl, rfl⟩
theorem nop : Statement (.nop) := ⟨_, _, _, rfl, rfl, rfl⟩
theorem cpxAbs (w : Word) : Statement (.cpxAbs w) := ⟨_, _, _, rfl, rfl, rfl⟩
theorem sbcAbs (w : Word) : Statement (.sbcAbs w) := ⟨_, _, _, rfl, rfl, rfl⟩
theorem incAbs (w : Word) : Statement (.incAbs w) := ⟨_, _, _, rfl, rfl, rfl⟩
theorem iscAbs (w : Word) : Statement (.iscAbs w) := ⟨_, _, _, rfl, rfl, rfl⟩
theorem beq (off : Byte) : Statement (.beq off) := ⟨_, _, _, rfl, rfl, rfl⟩
theorem sbcIndy (n : Byte) : Statement (.sbcIndy n) := ⟨_, _, _, rfl, rfl, rfl⟩
theorem iscIndy (n : Byte) : Statement (.iscIndy n) := ⟨_, _, _, rfl, rfl, rfl⟩
theorem sbcZpx (n : Byte) : Statement (.sbcZpx n) := ⟨_, _, _, rfl, rfl, rfl⟩
theorem incZpx (n : Byte) : Statement (.incZpx n) := ⟨_, _, _, rfl, rfl, rfl⟩
theorem iscZpx (n : Byte) : Statement (.iscZpx n) := ⟨_, _, _, rfl, rfl, rfl⟩
theorem sed : Statement (.sed) := ⟨_, _, _, rfl, rfl, rfl⟩
theorem sbcAbsy (w : Word) : Statement (.sbcAbsy w) := ⟨_, _, _, rfl, rfl, rfl⟩
theorem iscAbsy (w : Word) : Statement (.iscAbsy w) := ⟨_, _, _, rfl, rfl, rfl⟩
theorem sbcAbsx (w : Word) : Statement (.sbcAbsx w) := ⟨_, _, _, rfl, rfl, rfl⟩
theorem incAbsx (w : Word) : Statement (.incAbsx w) := ⟨_, _, _, rfl, rfl, rfl⟩
theorem iscAbsx (w : Word) : Statement (.iscAbsx w) := ⟨_, _, _, rfl, rfl, rfl⟩

end Sys2Proof.Laws.Encoding
end

