-- ==== Sys2Proof/Tests/Slice0.lean ====
section
/-! SUPPORT. The model's own tests: ill-formed terms refused, every opcode decoded from its word, one step per worked
example of the spec, and a witness for the hypotheses of every statement. Expected results are the spec's, not the
model's: 30_encoding.md section 4, the examples of the instruction rules, 95_test_vectors.md (V-*, F*, L1-*). -/

namespace Sys2Proof.Tests

open Sys2Proof Sys2Proof.Machine Sys2Proof.Claims

/-! ## Helpers -/

/-- A core ready at `pc` with `code` there and the RAM bytes `ram`. -/
def start (a x y sp f : Byte) (pc : Word) (code : List Byte) (ram : Memory) : State :=
  { State.reset with a := a, x := x, y := y, sp := sp, f := f, pc := pc, mem := placeBytes code pc ram }

/-- Registers, flags, PC and the ticks still to wait, then some bytes and some latches. -/
def seen (at' : List Word) (latches : List (Fin 25)) (t : State) : List Nat × List Byte × List Byte :=
  ([t.a.toNat, t.x.toNat, t.y.toNat, t.sp.toNat, t.f.toNat, t.pc.toNat, t.remaining], at'.map (memRead t),
   latches.map (fun i => t.reg[i.val]))

/-- What `f` sees of the state a result goes on in. -/
def ofNext {α : Type} (r : Result) (f : State → α) : Option α :=
  match r with
  | .next t => some (f t)
  | _ => none

/-- What `f` sees after one step. -/
def after {α : Type} (s : State) (f : State → α) : Option α := ofNext (step s) f

/-! ## Well-formedness: an ill-formed term for each check, refused -/

theorem test_ordered_refuses : Region.ordered ⟨"bad", .ram, 0x20, 0x1F⟩ = false ∧
    Region.wf ⟨"bad", .ram, 0x20, 0x1F⟩ = false := by decide
theorem test_inSpace_refuses : Region.inSpace ⟨"bad", .ram, 0xFFFF, 0x10000⟩ = false ∧
    Region.wf ⟨"bad", .ram, 0xFFFF, 0x10000⟩ = false := by decide
theorem test_region_accepts : Region.wf ⟨"one byte", .sid, 0xFFFF, 0xFFFF⟩ = true := by decide
theorem test_imageFits_refuses : imageFits 2 0xFFFF = false ∧ imageFits 1 0xFFFF = true ∧
    imageFits 0x10001 0 = false := by decide
theorem test_instr_wf : Instr.wf (.jmpInd 0xFFFF) = true := rfl

/-! ## Decoding: every bound slot from its word (30_encoding.md section 4), operands $34 and $1234 -/

theorem test_decode_00_to_0F :
    decode [0x00] = .ok .brk [] ∧
    decode [0x01, 0x34] = .ok (.oraIndx 0x34) [] ∧
    decode [0x02] = .rejected (.unsetSlot 0x02) ∧
    decode [0x03, 0x34] = .ok (.sloIndx 0x34) [] ∧
    decode [0x04] = .rejected (.unsetSlot 0x04) ∧
    decode [0x05, 0x34] = .ok (.oraZp 0x34) [] ∧
    decode [0x06, 0x34] = .ok (.aslZp 0x34) [] ∧
    decode [0x07, 0x34] = .ok (.sloZp 0x34) [] ∧
    decode [0x08] = .ok .php [] ∧
    decode [0x09, 0x34] = .ok (.oraImm 0x34) [] ∧
    decode [0x0A] = .ok .aslAcc [] ∧
    decode [0x0B] = .rejected (.unsetSlot 0x0B) ∧
    decode [0x0C] = .rejected (.unsetSlot 0x0C) ∧
    decode [0x0D, 0x34, 0x12] = .ok (.oraAbs 0x1234) [] ∧
    decode [0x0E, 0x34, 0x12] = .ok (.aslAbs 0x1234) [] ∧
    decode [0x0F, 0x34, 0x12] = .ok (.sloAbs 0x1234) [] := by decide

theorem test_decode_10_to_1F :
    decode [0x10, 0x34] = .ok (.bpl 0x34) [] ∧
    decode [0x11, 0x34] = .ok (.oraIndy 0x34) [] ∧
    decode [0x12] = .rejected (.unsetSlot 0x12) ∧
    decode [0x13, 0x34] = .ok (.sloIndy 0x34) [] ∧
    decode [0x14] = .rejected (.unsetSlot 0x14) ∧
    decode [0x15, 0x34] = .ok (.oraZpx 0x34) [] ∧
    decode [0x16, 0x34] = .ok (.aslZpx 0x34) [] ∧
    decode [0x17, 0x34] = .ok (.sloZpx 0x34) [] ∧
    decode [0x18] = .ok .clc [] ∧
    decode [0x19, 0x34, 0x12] = .ok (.oraAbsy 0x1234) [] ∧
    decode [0x1A] = .rejected (.unsetSlot 0x1A) ∧
    decode [0x1B, 0x34, 0x12] = .ok (.sloAbsy 0x1234) [] ∧
    decode [0x1C] = .rejected (.unsetSlot 0x1C) ∧
    decode [0x1D, 0x34, 0x12] = .ok (.oraAbsx 0x1234) [] ∧
    decode [0x1E, 0x34, 0x12] = .ok (.aslAbsx 0x1234) [] ∧
    decode [0x1F, 0x34, 0x12] = .ok (.sloAbsx 0x1234) [] := by decide

theorem test_decode_20_to_2F :
    decode [0x20, 0x34, 0x12] = .ok (.jsr 0x1234) [] ∧
    decode [0x21, 0x34] = .ok (.andIndx 0x34) [] ∧
    decode [0x22] = .rejected (.unsetSlot 0x22) ∧
    decode [0x23, 0x34] = .ok (.rlaIndx 0x34) [] ∧
    decode [0x24, 0x34] = .ok (.bitZp 0x34) [] ∧
    decode [0x25, 0x34] = .ok (.andZp 0x34) [] ∧
    decode [0x26, 0x34] = .ok (.rolZp 0x34) [] ∧
    decode [0x27, 0x34] = .ok (.rlaZp 0x34) [] ∧
    decode [0x28] = .ok .plp [] ∧
    decode [0x29, 0x34] = .ok (.andImm 0x34) [] ∧
    decode [0x2A] = .ok .rolAcc [] ∧
    decode [0x2B] = .rejected (.unsetSlot 0x2B) ∧
    decode [0x2C, 0x34, 0x12] = .ok (.bitAbs 0x1234) [] ∧
    decode [0x2D, 0x34, 0x12] = .ok (.andAbs 0x1234) [] ∧
    decode [0x2E, 0x34, 0x12] = .ok (.rolAbs 0x1234) [] ∧
    decode [0x2F, 0x34, 0x12] = .ok (.rlaAbs 0x1234) [] := by decide

theorem test_decode_30_to_3F :
    decode [0x30, 0x34] = .ok (.bmi 0x34) [] ∧
    decode [0x31, 0x34] = .ok (.andIndy 0x34) [] ∧
    decode [0x32] = .rejected (.unsetSlot 0x32) ∧
    decode [0x33, 0x34] = .ok (.rlaIndy 0x34) [] ∧
    decode [0x34] = .rejected (.unsetSlot 0x34) ∧
    decode [0x35, 0x34] = .ok (.andZpx 0x34) [] ∧
    decode [0x36, 0x34] = .ok (.rolZpx 0x34) [] ∧
    decode [0x37, 0x34] = .ok (.rlaZpx 0x34) [] ∧
    decode [0x38] = .ok .sec [] ∧
    decode [0x39, 0x34, 0x12] = .ok (.andAbsy 0x1234) [] ∧
    decode [0x3A] = .rejected (.unsetSlot 0x3A) ∧
    decode [0x3B, 0x34, 0x12] = .ok (.rlaAbsy 0x1234) [] ∧
    decode [0x3C] = .rejected (.unsetSlot 0x3C) ∧
    decode [0x3D, 0x34, 0x12] = .ok (.andAbsx 0x1234) [] ∧
    decode [0x3E, 0x34, 0x12] = .ok (.rolAbsx 0x1234) [] ∧
    decode [0x3F, 0x34, 0x12] = .ok (.rlaAbsx 0x1234) [] := by decide

theorem test_decode_40_to_4F :
    decode [0x40] = .ok .rti [] ∧
    decode [0x41, 0x34] = .ok (.eorIndx 0x34) [] ∧
    decode [0x42] = .rejected (.unsetSlot 0x42) ∧
    decode [0x43, 0x34] = .ok (.sreIndx 0x34) [] ∧
    decode [0x44] = .rejected (.unsetSlot 0x44) ∧
    decode [0x45, 0x34] = .ok (.eorZp 0x34) [] ∧
    decode [0x46, 0x34] = .ok (.lsrZp 0x34) [] ∧
    decode [0x47, 0x34] = .ok (.sreZp 0x34) [] ∧
    decode [0x48] = .ok .pha [] ∧
    decode [0x49, 0x34] = .ok (.eorImm 0x34) [] ∧
    decode [0x4A] = .ok .lsrAcc [] ∧
    decode [0x4B] = .rejected (.unsetSlot 0x4B) ∧
    decode [0x4C, 0x34, 0x12] = .ok (.jmpAbs 0x1234) [] ∧
    decode [0x4D, 0x34, 0x12] = .ok (.eorAbs 0x1234) [] ∧
    decode [0x4E, 0x34, 0x12] = .ok (.lsrAbs 0x1234) [] ∧
    decode [0x4F, 0x34, 0x12] = .ok (.sreAbs 0x1234) [] := by decide

theorem test_decode_50_to_5F :
    decode [0x50, 0x34] = .ok (.bvc 0x34) [] ∧
    decode [0x51, 0x34] = .ok (.eorIndy 0x34) [] ∧
    decode [0x52] = .rejected (.unsetSlot 0x52) ∧
    decode [0x53, 0x34] = .ok (.sreIndy 0x34) [] ∧
    decode [0x54] = .rejected (.unsetSlot 0x54) ∧
    decode [0x55, 0x34] = .ok (.eorZpx 0x34) [] ∧
    decode [0x56, 0x34] = .ok (.lsrZpx 0x34) [] ∧
    decode [0x57, 0x34] = .ok (.sreZpx 0x34) [] ∧
    decode [0x58] = .ok .cli [] ∧
    decode [0x59, 0x34, 0x12] = .ok (.eorAbsy 0x1234) [] ∧
    decode [0x5A] = .rejected (.unsetSlot 0x5A) ∧
    decode [0x5B, 0x34, 0x12] = .ok (.sreAbsy 0x1234) [] ∧
    decode [0x5C] = .rejected (.unsetSlot 0x5C) ∧
    decode [0x5D, 0x34, 0x12] = .ok (.eorAbsx 0x1234) [] ∧
    decode [0x5E, 0x34, 0x12] = .ok (.lsrAbsx 0x1234) [] ∧
    decode [0x5F, 0x34, 0x12] = .ok (.sreAbsx 0x1234) [] := by decide

theorem test_decode_60_to_6F :
    decode [0x60] = .ok .rts [] ∧
    decode [0x61, 0x34] = .ok (.adcIndx 0x34) [] ∧
    decode [0x62] = .rejected (.unsetSlot 0x62) ∧
    decode [0x63, 0x34] = .ok (.rraIndx 0x34) [] ∧
    decode [0x64] = .rejected (.unsetSlot 0x64) ∧
    decode [0x65, 0x34] = .ok (.adcZp 0x34) [] ∧
    decode [0x66, 0x34] = .ok (.rorZp 0x34) [] ∧
    decode [0x67, 0x34] = .ok (.rraZp 0x34) [] ∧
    decode [0x68] = .ok .pla [] ∧
    decode [0x69, 0x34] = .ok (.adcImm 0x34) [] ∧
    decode [0x6A] = .ok .rorAcc [] ∧
    decode [0x6B] = .rejected (.unsetSlot 0x6B) ∧
    decode [0x6C, 0x34, 0x12] = .ok (.jmpInd 0x1234) [] ∧
    decode [0x6D, 0x34, 0x12] = .ok (.adcAbs 0x1234) [] ∧
    decode [0x6E, 0x34, 0x12] = .ok (.rorAbs 0x1234) [] ∧
    decode [0x6F, 0x34, 0x12] = .ok (.rraAbs 0x1234) [] := by decide

theorem test_decode_70_to_7F :
    decode [0x70, 0x34] = .ok (.bvs 0x34) [] ∧
    decode [0x71, 0x34] = .ok (.adcIndy 0x34) [] ∧
    decode [0x72] = .rejected (.unsetSlot 0x72) ∧
    decode [0x73, 0x34] = .ok (.rraIndy 0x34) [] ∧
    decode [0x74] = .rejected (.unsetSlot 0x74) ∧
    decode [0x75, 0x34] = .ok (.adcZpx 0x34) [] ∧
    decode [0x76, 0x34] = .ok (.rorZpx 0x34) [] ∧
    decode [0x77, 0x34] = .ok (.rraZpx 0x34) [] ∧
    decode [0x78] = .ok .sei [] ∧
    decode [0x79, 0x34, 0x12] = .ok (.adcAbsy 0x1234) [] ∧
    decode [0x7A] = .rejected (.unsetSlot 0x7A) ∧
    decode [0x7B, 0x34, 0x12] = .ok (.rraAbsy 0x1234) [] ∧
    decode [0x7C] = .rejected (.unsetSlot 0x7C) ∧
    decode [0x7D, 0x34, 0x12] = .ok (.adcAbsx 0x1234) [] ∧
    decode [0x7E, 0x34, 0x12] = .ok (.rorAbsx 0x1234) [] ∧
    decode [0x7F, 0x34, 0x12] = .ok (.rraAbsx 0x1234) [] := by decide

theorem test_decode_80_to_8F :
    decode [0x80] = .rejected (.unsetSlot 0x80) ∧
    decode [0x81, 0x34] = .ok (.staIndx 0x34) [] ∧
    decode [0x82] = .rejected (.unsetSlot 0x82) ∧
    decode [0x83] = .rejected (.unsetSlot 0x83) ∧
    decode [0x84, 0x34] = .ok (.styZp 0x34) [] ∧
    decode [0x85, 0x34] = .ok (.staZp 0x34) [] ∧
    decode [0x86, 0x34] = .ok (.stxZp 0x34) [] ∧
    decode [0x87] = .rejected (.unsetSlot 0x87) ∧
    decode [0x88] = .ok .dey [] ∧
    decode [0x89] = .rejected (.unsetSlot 0x89) ∧
    decode [0x8A] = .ok .txa [] ∧
    decode [0x8B] = .rejected (.unsetSlot 0x8B) ∧
    decode [0x8C, 0x34, 0x12] = .ok (.styAbs 0x1234) [] ∧
    decode [0x8D, 0x34, 0x12] = .ok (.staAbs 0x1234) [] ∧
    decode [0x8E, 0x34, 0x12] = .ok (.stxAbs 0x1234) [] ∧
    decode [0x8F] = .rejected (.unsetSlot 0x8F) := by decide

theorem test_decode_90_to_9F :
    decode [0x90, 0x34] = .ok (.bcc 0x34) [] ∧
    decode [0x91, 0x34] = .ok (.staIndy 0x34) [] ∧
    decode [0x92] = .rejected (.unsetSlot 0x92) ∧
    decode [0x93] = .rejected (.unsetSlot 0x93) ∧
    decode [0x94, 0x34] = .ok (.styZpx 0x34) [] ∧
    decode [0x95, 0x34] = .ok (.staZpx 0x34) [] ∧
    decode [0x96, 0x34] = .ok (.stxZpy 0x34) [] ∧
    decode [0x97] = .rejected (.unsetSlot 0x97) ∧
    decode [0x98] = .ok .tya [] ∧
    decode [0x99, 0x34, 0x12] = .ok (.staAbsy 0x1234) [] ∧
    decode [0x9A] = .ok .txs [] ∧
    decode [0x9B] = .rejected (.unsetSlot 0x9B) ∧
    decode [0x9C] = .rejected (.unsetSlot 0x9C) ∧
    decode [0x9D, 0x34, 0x12] = .ok (.staAbsx 0x1234) [] ∧
    decode [0x9E] = .rejected (.unsetSlot 0x9E) ∧
    decode [0x9F] = .rejected (.unsetSlot 0x9F) := by decide

theorem test_decode_A0_to_AF :
    decode [0xA0, 0x34] = .ok (.ldyImm 0x34) [] ∧
    decode [0xA1, 0x34] = .ok (.ldaIndx 0x34) [] ∧
    decode [0xA2, 0x34] = .ok (.ldxImm 0x34) [] ∧
    decode [0xA3] = .rejected (.unsetSlot 0xA3) ∧
    decode [0xA4, 0x34] = .ok (.ldyZp 0x34) [] ∧
    decode [0xA5, 0x34] = .ok (.ldaZp 0x34) [] ∧
    decode [0xA6, 0x34] = .ok (.ldxZp 0x34) [] ∧
    decode [0xA7] = .rejected (.unsetSlot 0xA7) ∧
    decode [0xA8] = .ok .tay [] ∧
    decode [0xA9, 0x34] = .ok (.ldaImm 0x34) [] ∧
    decode [0xAA] = .ok .tax [] ∧
    decode [0xAB] = .rejected (.unsetSlot 0xAB) ∧
    decode [0xAC, 0x34, 0x12] = .ok (.ldyAbs 0x1234) [] ∧
    decode [0xAD, 0x34, 0x12] = .ok (.ldaAbs 0x1234) [] ∧
    decode [0xAE, 0x34, 0x12] = .ok (.ldxAbs 0x1234) [] ∧
    decode [0xAF] = .rejected (.unsetSlot 0xAF) := by decide

theorem test_decode_B0_to_BF :
    decode [0xB0, 0x34] = .ok (.bcs 0x34) [] ∧
    decode [0xB1, 0x34] = .ok (.ldaIndy 0x34) [] ∧
    decode [0xB2] = .rejected (.unsetSlot 0xB2) ∧
    decode [0xB3] = .rejected (.unsetSlot 0xB3) ∧
    decode [0xB4, 0x34] = .ok (.ldyZpx 0x34) [] ∧
    decode [0xB5, 0x34] = .ok (.ldaZpx 0x34) [] ∧
    decode [0xB6, 0x34] = .ok (.ldxZpy 0x34) [] ∧
    decode [0xB7] = .rejected (.unsetSlot 0xB7) ∧
    decode [0xB8] = .ok .clv [] ∧
    decode [0xB9, 0x34, 0x12] = .ok (.ldaAbsy 0x1234) [] ∧
    decode [0xBA] = .ok .tsx [] ∧
    decode [0xBB] = .rejected (.unsetSlot 0xBB) ∧
    decode [0xBC, 0x34, 0x12] = .ok (.ldyAbsx 0x1234) [] ∧
    decode [0xBD, 0x34, 0x12] = .ok (.ldaAbsx 0x1234) [] ∧
    decode [0xBE, 0x34, 0x12] = .ok (.ldxAbsy 0x1234) [] ∧
    decode [0xBF] = .rejected (.unsetSlot 0xBF) := by decide

theorem test_decode_C0_to_CF :
    decode [0xC0, 0x34] = .ok (.cpyImm 0x34) [] ∧
    decode [0xC1, 0x34] = .ok (.cmpIndx 0x34) [] ∧
    decode [0xC2] = .rejected (.unsetSlot 0xC2) ∧
    decode [0xC3, 0x34] = .ok (.dcpIndx 0x34) [] ∧
    decode [0xC4, 0x34] = .ok (.cpyZp 0x34) [] ∧
    decode [0xC5, 0x34] = .ok (.cmpZp 0x34) [] ∧
    decode [0xC6, 0x34] = .ok (.decZp 0x34) [] ∧
    decode [0xC7, 0x34] = .ok (.dcpZp 0x34) [] ∧
    decode [0xC8] = .ok .iny [] ∧
    decode [0xC9, 0x34] = .ok (.cmpImm 0x34) [] ∧
    decode [0xCA] = .ok .dex [] ∧
    decode [0xCB] = .rejected (.unsetSlot 0xCB) ∧
    decode [0xCC, 0x34, 0x12] = .ok (.cpyAbs 0x1234) [] ∧
    decode [0xCD, 0x34, 0x12] = .ok (.cmpAbs 0x1234) [] ∧
    decode [0xCE, 0x34, 0x12] = .ok (.decAbs 0x1234) [] ∧
    decode [0xCF, 0x34, 0x12] = .ok (.dcpAbs 0x1234) [] := by decide

theorem test_decode_D0_to_DF :
    decode [0xD0, 0x34] = .ok (.bne 0x34) [] ∧
    decode [0xD1, 0x34] = .ok (.cmpIndy 0x34) [] ∧
    decode [0xD2] = .rejected (.unsetSlot 0xD2) ∧
    decode [0xD3, 0x34] = .ok (.dcpIndy 0x34) [] ∧
    decode [0xD4] = .rejected (.unsetSlot 0xD4) ∧
    decode [0xD5, 0x34] = .ok (.cmpZpx 0x34) [] ∧
    decode [0xD6, 0x34] = .ok (.decZpx 0x34) [] ∧
    decode [0xD7, 0x34] = .ok (.dcpZpx 0x34) [] ∧
    decode [0xD8] = .ok .cld [] ∧
    decode [0xD9, 0x34, 0x12] = .ok (.cmpAbsy 0x1234) [] ∧
    decode [0xDA] = .rejected (.unsetSlot 0xDA) ∧
    decode [0xDB, 0x34, 0x12] = .ok (.dcpAbsy 0x1234) [] ∧
    decode [0xDC] = .rejected (.unsetSlot 0xDC) ∧
    decode [0xDD, 0x34, 0x12] = .ok (.cmpAbsx 0x1234) [] ∧
    decode [0xDE, 0x34, 0x12] = .ok (.decAbsx 0x1234) [] ∧
    decode [0xDF, 0x34, 0x12] = .ok (.dcpAbsx 0x1234) [] := by decide

theorem test_decode_E0_to_EF :
    decode [0xE0, 0x34] = .ok (.cpxImm 0x34) [] ∧
    decode [0xE1, 0x34] = .ok (.sbcIndx 0x34) [] ∧
    decode [0xE2] = .rejected (.unsetSlot 0xE2) ∧
    decode [0xE3, 0x34] = .ok (.iscIndx 0x34) [] ∧
    decode [0xE4, 0x34] = .ok (.cpxZp 0x34) [] ∧
    decode [0xE5, 0x34] = .ok (.sbcZp 0x34) [] ∧
    decode [0xE6, 0x34] = .ok (.incZp 0x34) [] ∧
    decode [0xE7, 0x34] = .ok (.iscZp 0x34) [] ∧
    decode [0xE8] = .ok .inx [] ∧
    decode [0xE9, 0x34] = .ok (.sbcImm 0x34) [] ∧
    decode [0xEA] = .ok .nop [] ∧
    decode [0xEB] = .rejected (.unsetSlot 0xEB) ∧
    decode [0xEC, 0x34, 0x12] = .ok (.cpxAbs 0x1234) [] ∧
    decode [0xED, 0x34, 0x12] = .ok (.sbcAbs 0x1234) [] ∧
    decode [0xEE, 0x34, 0x12] = .ok (.incAbs 0x1234) [] ∧
    decode [0xEF, 0x34, 0x12] = .ok (.iscAbs 0x1234) [] := by decide

theorem test_decode_F0_to_FF :
    decode [0xF0, 0x34] = .ok (.beq 0x34) [] ∧
    decode [0xF1, 0x34] = .ok (.sbcIndy 0x34) [] ∧
    decode [0xF2] = .rejected (.unsetSlot 0xF2) ∧
    decode [0xF3, 0x34] = .ok (.iscIndy 0x34) [] ∧
    decode [0xF4] = .rejected (.unsetSlot 0xF4) ∧
    decode [0xF5, 0x34] = .ok (.sbcZpx 0x34) [] ∧
    decode [0xF6, 0x34] = .ok (.incZpx 0x34) [] ∧
    decode [0xF7, 0x34] = .ok (.iscZpx 0x34) [] ∧
    decode [0xF8] = .ok .sed [] ∧
    decode [0xF9, 0x34, 0x12] = .ok (.sbcAbsy 0x1234) [] ∧
    decode [0xFA] = .rejected (.unsetSlot 0xFA) ∧
    decode [0xFB, 0x34, 0x12] = .ok (.iscAbsy 0x1234) [] ∧
    decode [0xFC] = .rejected (.unsetSlot 0xFC) ∧
    decode [0xFD, 0x34, 0x12] = .ok (.sbcAbsx 0x1234) [] ∧
    decode [0xFE, 0x34, 0x12] = .ok (.incAbsx 0x1234) [] ∧
    decode [0xFF, 0x34, 0x12] = .ok (.iscAbsx 0x1234) [] := by decide

/-- A list that ends inside an instruction is rejected by name. -/
theorem test_decode_truncated : decode [] = .rejected .truncated ∧ decode [0xA9] = .rejected .truncated ∧
    decode [0xAD, 0x34] = .rejected .truncated := by decide

/-- Table words: the opcode is the lowest byte, operand bytes above the given bits are zero. -/
theorem test_table_words : decodeTableWord 8 0xA9 = some (.ldaImm 0) ∧ decodeTableWord 24 0x1234AD = some (.ldaAbs 0x1234) ∧
    decodeTableWord 8 0xFF = some (.iscAbsx 0) ∧ decodeTableWord 8 0x02 = none := by decide

/-- A placed word is what the very next step runs, from reset and from a state that is faulted, halted and waiting with
PC in the SID sink. -/
theorem test_withFetchWord :
    after (State.reset.withFetchWord 24 0x1234A9) (fun t => (t.a, t.pc)) = some (0x34, 0x0002) ∧
    after (State.withFetchWord
      { State.reset with pc := 0xD403, f := 0x30, remaining := 3, faultState := some ⟨.illegalOpcode, 0, 0x02, 0⟩ }
      24 0x30004C) (fun t => (t.pc, t.remaining)) = some (0x3000, 2) := by decide

/-! ## One step per worked example (95_test_vectors.md section 2, else the rule's own example) -/

theorem test_lda_ls1 : after (start 0x55 0x00 0x00 0xFF 0x20 0x0200 [0xA9, 0x00] []) (seen [] []) =
    some ([0x00, 0x00, 0x00, 0xFF, 0x22, 0x0202, 1], [], []) := by decide

theorem test_lda_ls2 : after (start 0x00 0x00 0x00 0xFF 0x20 0x0200 [0xA9, 0x80] []) (seen [] []) =
    some ([0x80, 0x00, 0x00, 0xFF, 0xA0, 0x0202, 1], [], []) := by decide

theorem test_lda_ls8 : after (start 0x00 0x00 0x00 0xFF 0x20 0x0200 [0xA1, 0xFF] [(0x0000, 0x12), (0x00FF, 0x34), (0x1234, 0x5A)]) (seen [] []) =
    some ([0x5A, 0x00, 0x00, 0xFF, 0x20, 0x0202, 5], [], []) := by decide

theorem test_ldx_ls10 : after (start 0x00 0x00 0x90 0xFF 0x20 0x0200 [0xB6, 0x80] []) (seen [] []) =
    some ([0x00, 0x00, 0x90, 0xFF, 0x22, 0x0202, 3], [], []) := by decide

theorem test_sta_ls11 : after (start 0xAB 0x00 0x10 0xFF 0x20 0x0200 [0x91, 0x40] [(0x0040, 0xF8), (0x0041, 0x12)]) (seen [0x1308] []) =
    some ([0xAB, 0x00, 0x10, 0xFF, 0x20, 0x0202, 5], [0xAB], []) := by decide

theorem test_sta_ls12 : after (start 0x11 0x00 0x00 0xFF 0x20 0x0200 [0x8D, 0x04, 0xD4] []) (seen [0xD404] [4]) =
    some ([0x11, 0x00, 0x00, 0xFF, 0x20, 0x0203, 3], [0x00], [0x11]) := by decide

theorem test_stx_ls13 : after (start 0x00 0x42 0x20 0xFF 0x20 0x0200 [0x96, 0xF0] []) (seen [0x0010] []) =
    some ([0x00, 0x42, 0x20, 0xFF, 0x20, 0x0202, 3], [0x42], []) := by decide

theorem test_sty_ls14 : after (start 0x00 0x00 0x0F 0xFF 0x20 0x0200 [0x8C, 0x18, 0xD4] []) (seen [] [24]) =
    some ([0x00, 0x00, 0x0F, 0xFF, 0x20, 0x0203, 3], [], [0x0F]) := by decide

theorem test_tax_ls16 : after (start 0x00 0x33 0x00 0xFF 0x20 0x0200 [0xAA] []) (seen [] []) =
    some ([0x00, 0x00, 0x00, 0xFF, 0x22, 0x0201, 1], [], []) := by decide

theorem test_tsx_ls17 : after (start 0x00 0x00 0x00 0xFD 0x20 0x0200 [0xBA] []) (seen [] []) =
    some ([0x00, 0xFD, 0x00, 0xFD, 0xA0, 0x0201, 1], [], []) := by decide

theorem test_txs_ls18 : after (start 0x00 0x00 0x00 0xFF 0x22 0x0200 [0x9A] []) (seen [] []) =
    some ([0x00, 0x00, 0x00, 0x00, 0x22, 0x0201, 1], [], []) := by decide

theorem test_tya_ls19 : after (start 0x00 0x00 0x90 0xFF 0x20 0x0200 [0x98] []) (seen [] []) =
    some ([0x90, 0x00, 0x90, 0xFF, 0xA0, 0x0201, 1], [], []) := by decide

theorem test_pha_st1 : after (start 0x42 0x00 0x00 0x00 0x20 0x0200 [0x48] []) (seen [0x0100] []) =
    some ([0x42, 0x00, 0x00, 0xFF, 0x20, 0x0201, 2], [0x42], []) := by decide

theorem test_pla_st2 : after (start 0x00 0x00 0x00 0xFF 0x20 0x0200 [0x68] [(0x0100, 0x80)]) (seen [] []) =
    some ([0x80, 0x00, 0x00, 0x00, 0xA0, 0x0201, 3], [], []) := by decide

theorem test_php_st3 : after (start 0x00 0x00 0x00 0xFF 0x21 0x0200 [0x08] []) (seen [0x01FF] []) =
    some ([0x00, 0x00, 0x00, 0xFE, 0x21, 0x0201, 2], [0x31], []) := by decide

theorem test_plp_st4 : after (start 0x00 0x00 0x00 0xFE 0x20 0x0200 [0x28] [(0x01FF, 0xFF)]) (seen [] []) =
    some ([0x00, 0x00, 0x00, 0xFF, 0xEF, 0x0201, 3], [], []) := by decide

theorem test_plp_st5 : after (start 0x00 0x00 0x00 0xFE 0xA1 0x0200 [0x28] []) (seen [] []) =
    some ([0x00, 0x00, 0x00, 0xFF, 0x20, 0x0201, 3], [], []) := by decide

theorem test_rti_st6 : after (start 0x00 0x00 0x00 0xFC 0x20 0x0200 [0x40] [(0x01FD, 0xC3), (0x01FE, 0x34), (0x01FF, 0x12)]) (seen [] []) =
    some ([0x00, 0x00, 0x00, 0xFF, 0xE3, 0x1234, 5], [], []) := by decide

theorem test_adc_al1 : after (start 0x50 0x00 0x00 0xFF 0x20 0x0200 [0x69, 0x50] []) (seen [] []) =
    some ([0xA0, 0x00, 0x00, 0xFF, 0xE0, 0x0202, 1], [], []) := by decide

theorem test_adc_al2 : after (start 0xFF 0x00 0x00 0xFF 0x20 0x0200 [0x69, 0x01] []) (seen [] []) =
    some ([0x00, 0x00, 0x00, 0xFF, 0x23, 0x0202, 1], [], []) := by decide

theorem test_sbc_al6 : after (start 0x50 0x00 0x00 0xFF 0x21 0x0200 [0xE9, 0xF0] []) (seen [] []) =
    some ([0x60, 0x00, 0x00, 0xFF, 0x20, 0x0202, 1], [], []) := by decide

theorem test_sbc_al7 : after (start 0x50 0x00 0x00 0xFF 0x21 0x0200 [0xE9, 0xB0] []) (seen [] []) =
    some ([0xA0, 0x00, 0x00, 0xFF, 0xE0, 0x0202, 1], [], []) := by decide

theorem test_and_al11 : after (start 0xF0 0x00 0x00 0xFF 0x20 0x0200 [0x29, 0x0F] []) (seen [] []) =
    some ([0x00, 0x00, 0x00, 0xFF, 0x22, 0x0202, 1], [], []) := by decide

theorem test_eor_al12 : after (start 0x0F 0x00 0x00 0xFF 0x20 0x0200 [0x49, 0xFF] []) (seen [] []) =
    some ([0xF0, 0x00, 0x00, 0xFF, 0xA0, 0x0202, 1], [], []) := by decide

theorem test_ora_al13 : after (start 0x01 0x00 0x00 0xFF 0x20 0x0200 [0x09, 0x80] []) (seen [] []) =
    some ([0x81, 0x00, 0x00, 0xFF, 0xA0, 0x0202, 1], [], []) := by decide

theorem test_bit_al14 : after (start 0x01 0x00 0x00 0xFF 0x20 0x0200 [0x24, 0x10] [(0x0010, 0xC0)]) (seen [] []) =
    some ([0x01, 0x00, 0x00, 0xFF, 0xE2, 0x0202, 2], [], []) := by decide

theorem test_bit_al15 : after (start 0xFF 0x00 0x00 0xFF 0xE0 0x0200 [0x2C, 0x00, 0x30] [(0x3000, 0x3F)]) (seen [] []) =
    some ([0xFF, 0x00, 0x00, 0xFF, 0x20, 0x0203, 3], [], []) := by decide

theorem test_cmp_al16 : after (start 0x10 0x00 0x00 0xFF 0x20 0x0200 [0xC9, 0x10] []) (seen [] []) =
    some ([0x10, 0x00, 0x00, 0xFF, 0x23, 0x0202, 1], [], []) := by decide

theorem test_cmp_al17 : after (start 0x10 0x00 0x00 0xFF 0x20 0x0200 [0xC9, 0x20] []) (seen [] []) =
    some ([0x10, 0x00, 0x00, 0xFF, 0xA0, 0x0202, 1], [], []) := by decide

theorem test_cpx_al20 : after (start 0x00 0xFF 0x00 0xFF 0x20 0x0200 [0xE0, 0xFF] []) (seen [] []) =
    some ([0x00, 0xFF, 0x00, 0xFF, 0x23, 0x0202, 1], [], []) := by decide

theorem test_cpy_al21 : after (start 0x00 0x00 0x00 0xFF 0x20 0x0200 [0xC0, 0x01] []) (seen [] []) =
    some ([0x00, 0x00, 0x00, 0xFF, 0xA0, 0x0202, 1], [], []) := by decide

theorem test_inc_id1 : after (start 0x00 0x00 0x00 0xFF 0x20 0x0200 [0xE6, 0x10] [(0x0010, 0xFF)]) (seen [0x0010] []) =
    some ([0x00, 0x00, 0x00, 0xFF, 0x22, 0x0202, 4], [0x00], []) := by decide

theorem test_dec_id2 : after (start 0x00 0x00 0x00 0xFF 0x20 0x0200 [0xC6, 0x10] []) (seen [0x0010] []) =
    some ([0x00, 0x00, 0x00, 0xFF, 0xA0, 0x0202, 4], [0xFF], []) := by decide

theorem test_inx_id3 : after (start 0x00 0xFF 0x00 0xFF 0x20 0x0200 [0xE8] []) (seen [] []) =
    some ([0x00, 0x00, 0x00, 0xFF, 0x22, 0x0201, 1], [], []) := by decide

theorem test_dey_id4 : after (start 0x00 0x00 0x00 0xFF 0x20 0x0200 [0x88] []) (seen [] []) =
    some ([0x00, 0x00, 0xFF, 0xFF, 0xA0, 0x0201, 1], [], []) := by decide

theorem test_iny_id5 : after (start 0x00 0x00 0x7F 0xFF 0x20 0x0200 [0xC8] []) (seen [] []) =
    some ([0x00, 0x00, 0x80, 0xFF, 0xA0, 0x0201, 1], [], []) := by decide

theorem test_dex_id6 : after (start 0x00 0x01 0x00 0xFF 0x20 0x0200 [0xCA] []) (seen [] []) =
    some ([0x00, 0x00, 0x00, 0xFF, 0x22, 0x0201, 1], [], []) := by decide

theorem test_asl_id7 : after (start 0x80 0x00 0x00 0xFF 0x20 0x0200 [0x0A] []) (seen [] []) =
    some ([0x00, 0x00, 0x00, 0xFF, 0x23, 0x0201, 1], [], []) := by decide

theorem test_lsr_id8 : after (start 0x01 0x00 0x00 0xFF 0x20 0x0200 [0x4A] []) (seen [] []) =
    some ([0x00, 0x00, 0x00, 0xFF, 0x23, 0x0201, 1], [], []) := by decide

theorem test_rol_id9 : after (start 0x80 0x00 0x00 0xFF 0x21 0x0200 [0x2A] []) (seen [] []) =
    some ([0x01, 0x00, 0x00, 0xFF, 0x21, 0x0201, 1], [], []) := by decide

theorem test_ror_id10 : after (start 0x01 0x00 0x00 0xFF 0x21 0x0200 [0x6A] []) (seen [] []) =
    some ([0x80, 0x00, 0x00, 0xFF, 0xA1, 0x0201, 1], [], []) := by decide

theorem test_ror_id11 : after (start 0x02 0x00 0x00 0xFF 0x20 0x0200 [0x6A] []) (seen [] []) =
    some ([0x01, 0x00, 0x00, 0xFF, 0x20, 0x0201, 1], [], []) := by decide

theorem test_asl_id12 : after (start 0x00 0x01 0x00 0xFF 0x20 0x0200 [0x1E, 0xFF, 0x20] [(0x2100, 0x41)]) (seen [0x2100] []) =
    some ([0x00, 0x01, 0x00, 0xFF, 0xA0, 0x0203, 6], [0x82], []) := by decide

theorem test_rol_id13 : after (start 0x00 0x00 0x00 0xFF 0x20 0x0200 [0x26, 0x10] [(0x0010, 0x40)]) (seen [0x0010] []) =
    some ([0x00, 0x00, 0x00, 0xFF, 0xA0, 0x0202, 4], [0x80], []) := by decide

theorem test_inc_id14 : after (start 0x00 0x00 0x00 0xFF 0x20 0x0200 [0xFE, 0x04, 0xD4] []) (seen [] [4]) =
    some ([0x00, 0x00, 0x00, 0xFF, 0x20, 0x0203, 6], [], [0x01]) := by decide

theorem test_jmp_ct1 : after (start 0x00 0x00 0x00 0xFF 0x20 0x0200 [0x4C, 0x34, 0x12] []) (seen [] []) =
    some ([0x00, 0x00, 0x00, 0xFF, 0x20, 0x1234, 2], [], []) := by decide

theorem test_jmp_ct2 : after (start 0x00 0x00 0x00 0xFF 0x20 0x0200 [0x6C, 0xFF, 0x30] [(0x3000, 0x50), (0x30FF, 0x80), (0x3100, 0x40)]) (seen [] []) =
    some ([0x00, 0x00, 0x00, 0xFF, 0x20, 0x5080, 4], [], []) := by decide

theorem test_jsr_ct4 : after (start 0x00 0x00 0x00 0xFF 0x20 0x1234 [0x20, 0x00, 0x30] []) (seen [0x01FF, 0x01FE] []) =
    some ([0x00, 0x00, 0x00, 0xFD, 0x20, 0x3000, 5], [0x12, 0x36], []) := by decide

theorem test_rts_ct5 : after (start 0x00 0x00 0x00 0xFD 0x20 0x0200 [0x60] [(0x01FE, 0x36), (0x01FF, 0x12)]) (seen [] []) =
    some ([0x00, 0x00, 0x00, 0xFF, 0x20, 0x1237, 5], [], []) := by decide

theorem test_rts_ct6 : after (start 0x00 0x00 0x00 0xFD 0x20 0x0200 [0x60] [(0x01FE, 0xFF), (0x01FF, 0xFF)]) (seen [] []) =
    some ([0x00, 0x00, 0x00, 0xFF, 0x20, 0x0000, 5], [], []) := by decide

theorem test_bne_ct7 : after (start 0x00 0x00 0x00 0xFF 0x20 0x0200 [0xD0, 0x05] []) (seen [] []) =
    some ([0x00, 0x00, 0x00, 0xFF, 0x20, 0x0207, 2], [], []) := by decide

theorem test_bne_ct8 : after (start 0x00 0x00 0x00 0xFF 0x22 0x0200 [0xD0, 0x05] []) (seen [] []) =
    some ([0x00, 0x00, 0x00, 0xFF, 0x22, 0x0202, 1], [], []) := by decide

theorem test_beq_ct11 : after (start 0x00 0x00 0x00 0xFF 0x22 0x0250 [0xF0, 0x80] []) (seen [] []) =
    some ([0x00, 0x00, 0x00, 0xFF, 0x22, 0x01D2, 3], [], []) := by decide

theorem test_bpl_ct12 : after (start 0x00 0x00 0x00 0xFF 0x20 0xFFF0 [0x10, 0x20] []) (seen [] []) =
    some ([0x00, 0x00, 0x00, 0xFF, 0x20, 0x0012, 3], [], []) := by decide

theorem test_bmi_ct13 : after (start 0x00 0x00 0x00 0xFF 0xA0 0x02F0 [0x30, 0x0D] []) (seen [] []) =
    some ([0x00, 0x00, 0x00, 0xFF, 0xA0, 0x02FF, 2], [], []) := by decide

theorem test_bvc_ct14 : after (start 0x00 0x00 0x00 0xFF 0x20 0x0200 [0x50, 0x00] []) (seen [] []) =
    some ([0x00, 0x00, 0x00, 0xFF, 0x20, 0x0202, 2], [], []) := by decide

theorem test_bvs_ct15 : after (start 0x00 0x00 0x00 0xFF 0x60 0x0200 [0x70, 0x02] []) (seen [] []) =
    some ([0x00, 0x00, 0x00, 0xFF, 0x60, 0x0204, 2], [], []) := by decide

theorem test_bcc_ct16 : after (start 0x00 0x00 0x00 0xFF 0x21 0x0200 [0x90, 0x02] []) (seen [] []) =
    some ([0x00, 0x00, 0x00, 0xFF, 0x21, 0x0202, 1], [], []) := by decide

theorem test_bcs_ct17 : after (start 0x00 0x00 0x00 0xFF 0x21 0x0200 [0xB0, 0x02] []) (seen [] []) =
    some ([0x00, 0x00, 0x00, 0xFF, 0x21, 0x0204, 2], [], []) := by decide

theorem test_nop_ct18 : after (start 0x00 0x00 0x00 0xFF 0xA3 0x0200 [0xEA] []) (seen [] []) =
    some ([0x00, 0x00, 0x00, 0xFF, 0xA3, 0x0201, 1], [], []) := by decide

theorem test_brk_ct19 : after (start 0x00 0x00 0x00 0xF0 0x20 0x0200 [0x00] []) (seen [] []) =
    some ([0x00, 0x00, 0x00, 0xF0, 0x30, 0x0201, 6], [], []) := by decide

theorem test_clc_fl1 : after (start 0x00 0x00 0x00 0xFF 0xEF 0x0200 [0x18] []) (seen [] []) =
    some ([0x00, 0x00, 0x00, 0xFF, 0xEE, 0x0201, 1], [], []) := by decide

theorem test_sec_fl2 : after (start 0x00 0x00 0x00 0xFF 0x20 0x0200 [0x38] []) (seen [] []) =
    some ([0x00, 0x00, 0x00, 0xFF, 0x21, 0x0201, 1], [], []) := by decide

theorem test_cli_fl3 : after (start 0x00 0x00 0x00 0xFF 0x24 0x0200 [0x58] []) (seen [] []) =
    some ([0x00, 0x00, 0x00, 0xFF, 0x20, 0x0201, 1], [], []) := by decide

theorem test_sei_fl4 : after (start 0x00 0x00 0x00 0xFF 0x20 0x0200 [0x78] []) (seen [] []) =
    some ([0x00, 0x00, 0x00, 0xFF, 0x24, 0x0201, 1], [], []) := by decide

theorem test_clv_fl5 : after (start 0x00 0x00 0x00 0xFF 0xE0 0x0200 [0xB8] []) (seen [] []) =
    some ([0x00, 0x00, 0x00, 0xFF, 0xA0, 0x0201, 1], [], []) := by decide

theorem test_cld_fl6 : after (start 0x00 0x00 0x00 0xFF 0x28 0x0200 [0xD8] []) (seen [] []) =
    some ([0x00, 0x00, 0x00, 0xFF, 0x20, 0x0201, 1], [], []) := by decide

theorem test_sed_fl7 : after (start 0x00 0x00 0x00 0xFF 0x20 0x0200 [0xF8] []) (seen [] []) =
    some ([0x00, 0x00, 0x00, 0xFF, 0x28, 0x0201, 1], [], []) := by decide

theorem test_slo_un1 : after (start 0x01 0x00 0x00 0xFF 0x20 0x0200 [0x07, 0x10] [(0x0010, 0x81)]) (seen [0x0010] []) =
    some ([0x03, 0x00, 0x00, 0xFF, 0x21, 0x0202, 4], [0x02], []) := by decide

theorem test_rla_un2 : after (start 0xFF 0x00 0x00 0xFF 0x21 0x0200 [0x27, 0x10] [(0x0010, 0x80)]) (seen [0x0010] []) =
    some ([0x01, 0x00, 0x00, 0xFF, 0x21, 0x0202, 4], [0x01], []) := by decide

theorem test_sre_un3 : after (start 0xFF 0x00 0x00 0xFF 0x20 0x0200 [0x47, 0x10] [(0x0010, 0x03)]) (seen [0x0010] []) =
    some ([0xFE, 0x00, 0x00, 0xFF, 0xA1, 0x0202, 4], [0x01], []) := by decide

theorem test_rra_un4 : after (start 0x10 0x00 0x00 0xFF 0x20 0x0200 [0x67, 0x10] [(0x0010, 0x03)]) (seen [0x0010] []) =
    some ([0x12, 0x00, 0x00, 0xFF, 0x20, 0x0202, 4], [0x01], []) := by decide

theorem test_rra_un5 : after (start 0x7F 0x00 0x00 0xFF 0x20 0x0200 [0x67, 0x10] [(0x0010, 0x02)]) (seen [0x0010] []) =
    some ([0x80, 0x00, 0x00, 0xFF, 0xE0, 0x0202, 4], [0x01], []) := by decide

theorem test_dcp_un6 : after (start 0x41 0x00 0x00 0xFF 0x20 0x0200 [0xC7, 0x10] [(0x0010, 0x42)]) (seen [0x0010] []) =
    some ([0x41, 0x00, 0x00, 0xFF, 0x23, 0x0202, 4], [0x41], []) := by decide

theorem test_dcp_un7 : after (start 0x00 0x00 0x00 0xFF 0x20 0x0200 [0xC7, 0x10] []) (seen [0x0010] []) =
    some ([0x00, 0x00, 0x00, 0xFF, 0x20, 0x0202, 4], [0xFF], []) := by decide

theorem test_isc_un8 : after (start 0x05 0x00 0x00 0xFF 0x21 0x0200 [0xE7, 0x10] [(0x0010, 0x02)]) (seen [0x0010] []) =
    some ([0x02, 0x00, 0x00, 0xFF, 0x21, 0x0202, 4], [0x03], []) := by decide

theorem test_isc_un9 : after (start 0x00 0x00 0x00 0xFF 0x21 0x0200 [0xE7, 0x10] [(0x0010, 0xFF)]) (seen [0x0010] []) =
    some ([0x00, 0x00, 0x00, 0xFF, 0x23, 0x0202, 4], [0x00], []) := by decide

theorem test_slo_un12 : after (start 0x00 0x00 0x10 0xFF 0x20 0x0200 [0x13, 0x40] [(0x0040, 0xF8), (0x0041, 0x12), (0x1308, 0x40)]) (seen [0x1308] []) =
    some ([0x80, 0x00, 0x10, 0xFF, 0xA0, 0x0202, 7], [0x80], []) := by decide

theorem test_ldy_r113 : after (start 0x00 0x20 0x00 0xFF 0x20 0x0200 [0xBC, 0xF0, 0x12] [(0x1310, 0x44)]) (seen [] []) =
    some ([0x00, 0x20, 0x44, 0xFF, 0x20, 0x0203, 4], [], []) := by decide

theorem test_tay_r118 : after (start 0x81 0x00 0x00 0xFF 0x20 0x0200 [0xA8] []) (seen [] []) =
    some ([0x81, 0x00, 0x81, 0xFF, 0xA0, 0x0201, 1], [], []) := by decide

theorem test_txa_r119 : after (start 0x00 0x7F 0x00 0xFF 0x20 0x0200 [0x8A] []) (seen [] []) =
    some ([0x7F, 0x7F, 0x00, 0xFF, 0x20, 0x0201, 1], [], []) := by decide

/-! ## The host's operations (20_memory.md R51, 60_exceptions.md R274, 70_reset_and_hazards.md R292 to R295) -/

theorem test_attach : ofNext (attach ⟨"io", .sid, 0xD500, 0xD518⟩ State.reset) (fun t => (t.regions.length, t.regions[2]?)) =
    some (3, some ⟨"io", .sid, 0xD500, 0xD518⟩) ∧ attachHandle State.reset = 2 := by decide
theorem test_attach_refuses : ofNext (attach ⟨"bad", .ram, 0x10000, 0x10000⟩ State.reset) (fun t => t.pc) = none := by decide
theorem test_load_overflow : (load 0xFFFF [1, 2] 0xFFFF State.reset).faultState = some ⟨.loadOverflow, 0, 0, 0⟩ ∧
    (load 0xFFFF [1, 2] 0xFFFF State.reset).mem = [] := by decide
theorem test_load_wrong_address :
    (load 0x1000 [1, 2] 0x1001 State.reset).faultState = some ⟨.unsupportedLoadAddress, 0, 0, 0⟩ := by decide
theorem test_load_copies : (load 0xFFFE [1, 2] 0xFFFE State.reset).mem = [(0xFFFE, 1), (0xFFFF, 2)] ∧
    (load 0xFFFE [1, 2] 0xFFFE State.reset).faultState = none := by decide
/-- 70_reset_and_hazards.md R292: an image over the end of the SID sink is poked there and stored after it. -/
theorem test_load_pokes : (load 0xD418 [7, 9] 0xD418 State.reset).reg[24] = 7 ∧
    (load 0xD418 [7, 9] 0xD418 State.reset).mem = [(0xD419, 9)] := by decide
/-- The start state of the programs of 95_test_vectors.md section 4. -/
theorem test_call : seen [0x01FF, 0x01FE] [] (call 0x1000 none State.reset) =
    ([0, 0, 0, 0xFD, 0x20, 0x1000, 0], [0xFF, 0xFF], []) := by decide
theorem test_fault_codes : faultCode .illegalOpcode = 0 ∧ faultCode .loadOverflow = 1 ∧
    faultCode .unsupportedLoadAddress = 2 := by decide
/-- V-DS1, V-DS3 of 95_test_vectors.md: an unset slot under either policy. -/
theorem test_unset_slot : after (start 0 0 0 0xFF 0x20 0x0300 [0x02] []) (fun t => (t.pc, t.faultState)) =
      some (0x0301, some ⟨.illegalOpcode, 0x0300, 0x02, 0⟩) ∧
    ofNext (tick .nop1 (start 0x05 0 0 0xFF 0x20 0x0300 [0xEB, 0x01] [])) (fun t => (t.pc, t.remaining, t.faultState)) =
      some (0x0301, 0, none) := by decide
/-- V-CT20, V-DS4, and V-CT3 with `P_JMP_IND_WRAP` false. -/
theorem test_tick_corners : after (start 0 0 0 0xFF 0x30 0x0200 [0xA9, 0x01] []) (seen [] []) =
      some ([0, 0, 0, 0xFF, 0x30, 0x0200, 0], [], []) ∧
    after (start 0 0 0 0xFF 0x20 0xFFFF [0x00] []) (fun t => (t.pc, t.f)) = some (0x0000, 0x30) ∧
    eaInd false 0x30FF (start 0 0 0 0xFF 0x20 0x0200 [] [(0x3000, 0x50), (0x30FF, 0x80), (0x3100, 0x40)]) = 0x4080 := by
  decide

/-! ## The reconstructor -/

/-- A sounding note of voice 0 with the given lengths, started at frame `start`. -/
def note (start : Nat) (attack decay release : Rat) (status : NoteStatus) : Note :=
  ⟨start, 60, .sawtooth, attack, decay, 0, release, [], status, 60⟩

/-- `reset` at frame `f` with the notes `ns` of voice 0 and pokes made. -/
def voiced (f : Nat) (ns : List Note) (pokes : List (Nat × Byte)) : State :=
  setNotes 0 ns (pokes.foldl (fun s p => poke p.1 p.2 s) { State.reset with frame := f })

/-- L1-5: 0.01 s inside an attack of 0.016 s. -/
theorem test_L1_5 : (clipEnvelope (1 / 100) (note 0 (16 / 1000) (3 / 10) 0 .sounding)) =
    { note 0 (1 / 100) 0 0 .sounding with sustainLen := 0 } := by decide +kernel
/-- L1-6: 0.05 s of a release of 0.3 s. -/
theorem test_L1_6 : (clipRelease (5 / 100) (note 0 0 0 (3 / 10) (.released 0))).release = 5 / 100 := by decide +kernel
/-- F8: two waveform bits give noise and a warning; the note opens with the table's lengths. -/
theorem test_F8 : (finishFrame (voiced 0 [] [(0, 0x27), (1, 0x11), (4, 0x31)])).warnings = [⟨0, 0, 0b0011⟩] ∧
    (notesOf (flush (advanceFrame (finishFrame (voiced 0 [] [(0, 0x27), (1, 0x11), (4, 0x31)])))) 0).map
      (fun o => ((o.pitch, o.waveform, o.status), [o.attack, o.decay, o.sustainLen, o.release])) =
      [((60, .noise, .stopped), [1 / 500, 3 / 500, 3 / 250, 0])] := by decide +kernel
/-- F5's frame 2: a changed frequency is one bend event. -/
theorem test_F5_bend : (notesOf (finishFrame (voiced 2 [note 0 0 0 0 .sounding] [(0, 0x50), (1, 0x22), (4, 0x41)])) 0).map
    (fun o => (o.bends, o.curPitch)) = [([(2, 72)], 72)] := by decide +kernel
/-- F6's frame 3: the released note is stopped before the new one starts. -/
theorem test_F6_retrigger :
    (notesOf (finishFrame (voiced 3 [note 0 (2 / 125) (1 / 250) (3 / 500) (.released 1)] [(0, 0x27), (1, 0x11), (4, 0x21)])) 0).map
      (fun o => (o.startFrame, o.release, o.status)) = [(0, 3 / 500, .stopped), (3, 3 / 500, .sounding)] := by decide +kernel
/-- F7's frames 0 and 1: a gate with frequency 0 creates nothing. -/
theorem test_F7_no_frequency : notesOf (finishFrame (voiced 0 [] [(4, 0x21)])) 0 = [] := by decide +kernel
/-- 95_test_vectors.md section 3.1. -/
theorem test_pitches : [1, 100, 274, 4389, 4455, 7279, 7280, 7712, 7713, 32768, 65535].map (pitch Config.clockHz) =
    [some (-85), some (-6), some 12, some 60, some 60, some 68, some 69, some 69, some 70, some 95, some 107] := by
  decide +kernel

/-- 51_note_reconstructor.md R253: the output has the eight fields and not the status or the current pitch. -/
theorem test_output :
    (match outputOf (.completed (voiced 4 [note 0 (1 / 50) 0 (3 / 500) .stopped] [])) with
      | .music lists _ => lists[0] | .fault _ => []) = [⟨0, 60, .sawtooth, 1 / 50, 0, 0, 3 / 500, []⟩] := by
  decide +kernel

/-! ## A witness for the hypotheses of every statement -/

/-- `LDA #$80` at $0200 (V-LS2). -/
def lda : State := start 0 0 0 0xFF 0x20 0x0200 [0xA9, 0x80] []

theorem lda_ready : Ready lda := ⟨by decide, by decide, by decide⟩
theorem lda_decodes : decode [memRead lda lda.pc, memRead lda (lda.pc + 1), memRead lda (lda.pc + 2)] =
    .ok (.ldaImm 0x80) [0x00] := by decide
theorem lda_inv : CoreInv lda := ⟨by decide, by decide, by decide, by decide⟩
theorem lda_runs : ∃ t, step lda = .next t := ⟨_, rfl⟩

theorem witness_StepKeepsTheCoreInvariant : CoreInv lda ∧ (∃ t, step lda = .next t) ∧ ∃ t, tick .nop1 lda = .next t :=
  ⟨lda_inv, lda_runs, ⟨_, rfl⟩⟩
theorem witness_HostOperationsKeepTheCoreInvariant : CoreInv lda ∧
    (∃ t, attach ⟨"last", .ram, 0xFFFF, 0xFFFF⟩ lda = .next t) ∧ ∃ t, ticks 2 lda = .next t :=
  ⟨lda_inv, ⟨_, rfl⟩, ⟨_, rfl⟩⟩
theorem witness_DecodeOfEncodeIsTheInstruction : Instr.wf (.jsr 0xFFFF) = true := rfl
theorem witness_EncodeOfDecodeIsTheBytes : decode [0x6C, 0xFF, 0x30, 0x02] = .ok (.jmpInd 0x30FF) [0x02] := by decide
theorem witness_UnsetSlotsFollowThePolicy : Ready (start 0 0 0 0xFF 0x20 0xFFFF [0xFC] []) ∧
    memRead (start 0 0 0 0xFF 0x20 0xFFFF [0xFC] []) 0xFFFF ∈ unsetOpcodes := ⟨⟨by decide, by decide, by decide⟩, by decide⟩
theorem witness_SlotShapeFollowsTheMode : ((dispatch 0xBD).map Slot.pagePenalty, (dispatch 0xBD).map Slot.mode) =
    (some true, some .absx) := by decide
theorem witness_StepRunsTheDecodedInstruction : Ready lda ∧
    decode [memRead lda lda.pc, memRead lda (lda.pc + 1), memRead lda (lda.pc + 2)] = .ok (.ldaImm 0x80) [0x00] :=
  ⟨lda_ready, lda_decodes⟩

theorem witness_StepFollowsTheTickRule :
    Faulted { lda with faultState := some ⟨.illegalOpcode, 0, 0x02, 0⟩ } ∧ MidInstruction { lda with remaining := 1 } ∧
    Halted { lda with f := 0x30 } ∧ (Ready lda ∧ (dispatch (memRead lda lda.pc)).isSome = true) ∧
    (Ready (start 0 0 0 0xFF 0x20 0 [0x02] []) ∧ dispatch (memRead (start 0 0 0 0xFF 0x20 0 [0x02] []) 0) = none) :=
  ⟨by unfold Faulted; decide, ⟨by decide, by decide⟩, ⟨by decide, by decide, by decide⟩, ⟨lda_ready, by decide⟩,
   ⟨by decide, by decide, by decide⟩, by decide⟩
theorem witness_QuietTicksChangeNothingElse :
    Faulted { lda with faultState := some ⟨.illegalOpcode, 0, 0x02, 0⟩ } ∧ Halted { lda with f := 0x30 } ∧
    ({ lda with remaining := 7 }.faultState = none ∧ 7 ≤ { lda with remaining := 7 }.remaining) :=
  ⟨by unfold Faulted; decide, ⟨by decide, by decide, by decide⟩, by decide, by decide⟩
theorem witness_EffectsComeInTheFirstTick : Ready lda ∧
    decode [memRead lda lda.pc, memRead lda (lda.pc + 1), memRead lda (lda.pc + 2)] = .ok (.ldaImm 0x80) [0x00] ∧
    after lda (fun t => decide (1 ≤ t.remaining)) = some true := ⟨lda_ready, lda_decodes, by decide⟩

/-- $D3FF, $D400, $D418 and $D419 under the default map, and an address no region of a map covers. -/
theorem witness_FirstCoveringRegionServesAnAddress :
    (State.reset.regions = [] ++ ⟨"sid", .sid, 0xD400, 0xD418⟩ :: [wholeRam] ∧
      0xD400 ≤ (0xD400#16).toNat ∧ (0xD418#16).toNat ≤ 0xD418) ∧
    (State.reset.regions = [⟨"sid", .sid, 0xD400, 0xD418⟩] ++ wholeRam :: [] ∧
      (∀ q ∈ [(⟨"sid", .sid, 0xD400, 0xD418⟩ : Region)], ¬(q.start ≤ (0xD3FF#16).toNat ∧ (0xD3FF#16).toNat ≤ q.stop)) ∧
      ∀ q ∈ [(⟨"sid", .sid, 0xD400, 0xD418⟩ : Region)], ¬(q.start ≤ (0xD419#16).toNat ∧ (0xD419#16).toNat ≤ q.stop)) ∧
    (∀ q ∈ (State.resetWith [⟨"low", .ram, 0, 0xFF⟩]).regions, ¬(q.start ≤ (0x0100#16).toNat ∧ (0x0100#16).toNat ≤ q.stop)) := by
  decide
theorem witness_WrittenBytesReadBack :
    (Memory.wf lda.mem ∧ inRam lda 0x0200 = true) ∧ inRam lda 0xD418 = false ∧
    (∀ c ∈ lda.mem, c.1 ≠ (0x0202#16).toNat) ∧ (0x0201#16 : Word) ≠ 0x0200#16 := by decide
theorem witness_DefaultMapSplitsTheAddressSpace : State.reset.regions = Config.memoryMap ∧
    (0xD400#16).toNat = 0xD400 + 0 ∧ (0xD418#16).toNat = 0xD400 + 24 ∧ 24 ≤ 24 ∧
    inRam State.reset 0xD3FF = true ∧ inRam State.reset 0xD400 = false ∧ inRam State.reset 0xD418 = false ∧
    inRam State.reset 0xD419 = true := by decide
theorem witness_PushThenPullGivesTheByteBack : Memory.wf lda.mem ∧ inRam lda (stackAddr lda.sp) = true ∧
    inRam lda (stackAddr 0x00) = true := by decide

/-- The extra conditions of a storing statement: canonical RAM and a RAM address, and another address. -/
theorem witness_Stores : Memory.wf lda.mem ∧ inRam lda (eaAbs 0x0300).ea = true ∧ inRam lda (stackAddr lda.sp) = true ∧
    (0x0301#16 : Word) ≠ (eaAbs 0x0300).ea := by decide
/-- The statements that store, whose hypotheses `witness_Stores` meets. -/
theorem witness_StoresWriteTheRegister : Memory.wf lda.mem ∧ inRam lda (eaIndy 0x40 lda).ea = true := by decide
theorem witness_AccumulatorGoesThroughTheStack : Memory.wf lda.mem ∧ inRam lda (stackAddr lda.sp) = true := by decide
theorem witness_FlagsGoThroughTheStack : Memory.wf lda.mem ∧ inRam lda (stackAddr lda.sp) = true := by decide
theorem witness_IncrementsAndDecrementsWrap : Memory.wf lda.mem ∧ inRam lda (eaZpx 0xFF lda).ea = true := by decide
theorem witness_ShiftsMoveOneBit : Memory.wf lda.mem ∧ inRam lda (eaAbsx 0x20FF lda).ea = true := by decide
theorem witness_CombinedInstructionsWriteBackThenAct : Memory.wf lda.mem ∧ inRam lda (eaIndx 0xFF lda).ea = true := by
  decide
theorem witness_LogicCombinesBitwise : (0 : Nat) < 8 ∧ (7 : Nat) < 8 := by decide
/-- The two stack addresses of a JSR, S in the middle of its page and at either end of it. -/
theorem witness_JumpsAndSubroutinesMovePc : Memory.wf lda.mem ∧
    inRam lda (stackAddr 0xFF) = true ∧ inRam lda (stackAddr 0xFE) = true ∧
    inRam lda (stackAddr 0x00) = true ∧ inRam lda (stackAddr (0x00 - 1)) = true ∧
    (0x0200#16 : Word) ≠ stackAddr 0xFF ∧ (0x0200#16 : Word) ≠ stackAddr 0xFE := by decide
/-- Each flag clear and set; a target in the page of the next instruction and one in another. -/
theorem witness_BranchesTestTheirFlag :
    (∀ k ∈ [Flag.N, .V, .C, .Z], getFlag lda.f k ≠ true ∧ getFlag lda.f k = false ∧ getFlag 0xE3 k = true) ∧
    (branchTarget 0x0202 0x7F).toNat / 256 = (0x0202#16).toNat / 256 ∧
    (branchTarget 0x0202 0x80).toNat / 256 ≠ (0x0202#16).toNat / 256 := by decide
theorem witness_BrkHaltsTheCore : Ready State.reset ∧ memRead State.reset State.reset.pc = 0x00 ∧ 7 ≤ 7 :=
  ⟨⟨by decide, by decide, by decide⟩, by decide, by decide⟩
theorem witness_CombinedInstructionsAreCompositions : Memory.wf lda.mem ∧ inRam lda (eaZp 0xFF).ea = true ∧
    inRam lda (eaZpx 0xFF lda).ea = true ∧ inRam lda (eaAbs 0xFFFF).ea = true ∧
    inRam lda (eaAbsx 0xFFFF lda).ea = true := by decide
/-- The state right after the JSR is itself a `u` as the statement asks. -/
theorem witness_ReturnGoesToTheInstructionAfterTheCall : Memory.wf lda.mem ∧ inRam lda (stackAddr lda.sp) = true ∧
    inRam lda (stackAddr (lda.sp - 1)) = true ∧ ∃ t, exec (.jsr 0x3000) lda = .next t ∧ ∃ u : State, u.sp = t.sp ∧
      u.regions = t.regions ∧ memRead u (stackAddr lda.sp) = memRead t (stackAddr lda.sp) ∧
      memRead u (stackAddr (lda.sp - 1)) = memRead t (stackAddr (lda.sp - 1)) :=
  ⟨by decide, by decide, by decide, _, rfl, _, rfl, rfl, rfl, rfl⟩
theorem witness_NineRotationsRestoreTheByte : (Instr.rolAcc = .rolAcc ∨ Instr.rolAcc = .rorAcc) ∧
    (Instr.rorAcc = .rolAcc ∨ Instr.rorAcc = .rorAcc) := by decide

/-- For each register and flag an instruction that changes it. -/
theorem witness_RegistersChangeOnlyByTheirWriters :
    ofNext (exec (.ldaImm 1) lda) (fun t => decide (t.a ≠ lda.a)) = some true ∧
    ofNext (exec .rolAcc { lda with a := 1 }) (fun t => decide (t.a ≠ 1)) = some true ∧
    ofNext (exec .inx lda) (fun t => decide (t.x ≠ lda.x)) = some true ∧
    ofNext (exec .dey lda) (fun t => decide (t.y ≠ lda.y)) = some true ∧
    ofNext (exec .pha lda) (fun t => decide (t.sp ≠ lda.sp)) = some true ∧
    ofNext (exec .sec lda) (fun t => decide (getFlag t.f .C ≠ getFlag lda.f .C)) = some true ∧
    ofNext (exec .dex lda) (fun t => decide (getFlag t.f .N ≠ getFlag lda.f .N)) = some true ∧
    ofNext (exec (.ldaImm 0) lda) (fun t => decide (getFlag t.f .Z ≠ getFlag lda.f .Z)) = some true ∧
    ofNext (exec .clv { lda with f := 0x60 }) (fun t => decide (getFlag t.f .V ≠ true)) = some true ∧
    ofNext (exec .sei lda) (fun t => decide (getFlag t.f .I ≠ getFlag lda.f .I)) = some true ∧
    ofNext (exec .sed lda) (fun t => decide (getFlag t.f .D ≠ getFlag lda.f .D)) = some true := by decide
theorem witness_DecimalAndInterruptFlagsAreOnlyStored : Instr.adcImm 9 ≠ .php ∧ (Flag.D = .D ∨ Flag.D = .I) ∧
    (Flag.I = .D ∨ Flag.I = .I) ∧ ∃ t, exec (.adcImm 9) lda = .next t := ⟨by decide, by decide, by decide, _, rfl⟩
theorem witness_InstructionsLeaveTheHostsStateAlone : (∃ t, exec .brk lda = .next t) ∧ ∃ t, step lda = .next t :=
  ⟨⟨_, rfl⟩, lda_runs⟩
theorem witness_LatchesHoldWhatWasPoked : 0 ≤ 24 ∧ 24 ≤ 24 ∧ (24 : Nat) < 25 ∧ (24 : Nat) < 25 + 1 ∧
    gate (poke 4 0x41 lda) 0 = true := by decide
theorem witness_StoreToTheSidSinkLatches : lda.regions = Config.memoryMap ∧ 0 ≤ 24 ∧ 24 ≤ 24 := by decide
theorem witness_PitchIsTheNearestSemitone : 0 < 1 ∧ 0 < Config.clockHz ∧ 0 < 65535 ∧
    pitch Config.clockHz 65535 = some 107 := by decide +kernel
theorem witness_WaveformDecodeWarnsOnUnknownBits : 0b0001#4 ∈ [0b0001#4, 0b0010#4, 0b0100#4, 0b1000#4] ∧
    0b0000#4 ∉ [0b0001#4, 0b0010#4, 0b0100#4, 0b1000#4] ∧ 0b1111#4 ∉ [0b0001#4, 0b0010#4, 0b0100#4, 0b1000#4] := by decide

/-- Elapsed 1/50 against an attack of 1 (clipped), of 1/50 (exactly its end) and of 1/100 with no decay (past both). -/
theorem witness_ReleaseClipsTheEnvelope :
    (3 ≤ 4 ∧ (0 : Rat) ≤ 1 ∧ ((4 : Rat) - 3) / 50 < 1) ∧
    ((1 / 50 : Rat) ≤ ((4 : Rat) - 3) / 50 ∧ ((4 : Rat) - 3) / 50 < 1 / 50 + 1) ∧
    ((1 / 100 : Rat) + 0 ≤ ((4 : Rat) - 3) / 50) ∧ (0 : Rat) ≤ 0 := by decide +kernel
theorem witness_StopClipsTheReleaseLength : (note 0 0 0 1 (.released 2)).status = .released 2 ∧
    (note 0 0 0 1 .sounding).status = .sounding ∧ (note 0 0 0 1 .stopped).status = .stopped := by decide

/-- The gate set or clear, with pitch 60 or frequency 0, and no, a stopped, a released or a sounding last note. -/
theorem witness_FrameStepFollowsTheGate :
    let on := voiced 4 [] [(0, 0x27), (1, 0x11), (4, 0x21)]
    (gate on 0 = true ∧ pitch Config.clockHz (freq on 0).toNat = some 60) ∧
    (∀ q, [note 0 0 0 0 .stopped].getLast? = some q → q.status = .stopped) ∧
    (notesOf (setNotes 0 [note 0 0 0 0 (.released 2)] on) 0 = [] ++ [note 0 0 0 0 (.released 2)]) ∧
    (notesOf (setNotes 0 [note 0 0 0 0 .sounding] on) 0 = [] ++ [note 0 0 0 0 .sounding]) ∧
    (gate (voiced 4 [] [(4, 0x21)]) 0 = true ∧ (freq (voiced 4 [] [(4, 0x21)]) 0).toNat = 0) ∧
    (gate State.reset 0 = false ∧ ∀ q, [note 0 0 0 0 (.released 2)].getLast? = some q → q.status ≠ .sounding) := by
  refine ⟨by decide +kernel, ?_, by simp, by simp, by decide +kernel, by decide +kernel, ?_⟩ <;>
    (intro q h; cases h; decide)

/-- A list with a stopped and a sounding record, at frame 4. -/
def played : State :=
  voiced 4 [note 0 (1 / 50) 0 (3 / 500) .stopped, { note 2 (1 / 500) (3 / 500) 1 .sounding with bends := [(3, 72)], curPitch := 72 }] []

theorem witness_FramesKeepTheReconstructorInvariant : ReconstructorInv played ∧ ∃ t, ticks 3 played = .next t := by
  refine ⟨?_, _, rfl⟩
  intro v
  by_cases h : v = 0
  · subst h
    have e : notesOf played 0 = [note 0 (1 / 50) 0 (3 / 500) .stopped,
      { note 2 (1 / 500) (3 / 500) 1 .sounding with bends := [(3, 72)], curPitch := 72 }] := by simp [played, voiced]
    have f : played.frame = 4 := rfl
    rw [e, f]
    refine ⟨by simp [note], by simp [note], ?_⟩
    intro o ho
    rcases List.mem_cons.mp ho with rfl | ho
    · constructor <;> (simp [note, lastPitch]; try norm_num)
    · rw [List.mem_singleton.mp ho]
      constructor <;> (simp [note, lastPitch]; try norm_num)
  · have e : notesOf played v = [] := by
      rw [played, voiced, notesOf_setNotes_other h]
      simp [notesOf, State.reset, State.resetWith]
    rw [e]
    exact ⟨by simp, by simp, by simp⟩

theorem witness_StoppedRecordsNeverChange :
    ([note 0 0 0 0 .stopped, note 2 0 0 0 .sounding])[0]? = some (note 0 0 0 0 .stopped) ∧
    (note 0 0 0 0 .stopped).status = .stopped := by decide +kernel

theorem witness_LoadChecksThenCopies :
    ((0 : Nat) ≤ 0xFFFF ∧ 0xFFFF ≤ 0xFFFF) ∧ 0x10000 < 0x10000 + [(1 : Byte)].length ∧
    (0xFFFF + [(1 : Byte)].length ≤ 0x10000 ∧ 0xFFFF ≠ 0x1000) ∧
    (0xFFFF + [(1 : Byte)].length ≤ 0x10000 ∧ 0xFFFF = 0xFFFF ∧ Memory.wf lda.mem ∧
      inRam lda (BitVec.ofNat 16 (0xFFFF + 0)) = true) ∧
    inRam lda 0xD418 = false := by decide
/-- An image at $D418 pokes latch 24 with its first byte and no latch with its second; no latch but 24 is poked. -/
theorem witness_LoadChecksThenCopies_sid : Pokes lda (BitVec.ofNat 16 (0xD418 + 0)) 24 ∧
    (∀ n, 0 < n → n < [(7 : Byte), 9].length → ¬ Pokes lda (BitVec.ofNat 16 (0xD418 + n)) 24) ∧
    (∀ k, k < [(7 : Byte), 9].length → ¬ Pokes lda (BitVec.ofNat 16 (0xD418 + k)) 0) := by
  have h : ∀ addr j, Pokes lda addr j ↔
      (match regionAt lda addr with
        | some r => decide (r.kind = .sid) && decide (addr.toNat - r.start = j)
        | none => false) = true := by
    intro addr j
    unfold Pokes
    cases regionAt lda addr <;> simp
  simp only [h]
  refine ⟨by decide, fun n h0 h2 => ?_, by decide⟩
  have : n = 1 := by simp at h2; omega
  subst this
  decide
/-- With no region attached every image address is unmapped. -/
theorem witness_LoadChecksThenCopies_unmapped : ∀ k, k < [(1 : Byte)].length →
    regionAt { lda with regions := [] } (BitVec.ofNat 16 (0xFFFF + k)) = none := by decide
theorem witness_CalledRoutineReturnsToTheReturnAddress : Memory.wf lda.mem ∧ inRam lda (stackAddr lda.sp) = true ∧
    inRam lda (stackAddr (lda.sp - 1)) = true := by decide

/-- A faulted core; one that runs on; one whose ticks fault; a run cancelled at its frame and one that is not. -/
theorem witness_DriverAlternatesTicksAndFrameEnds :
    Faulted { lda with faultState := some ⟨.illegalOpcode, 0, 0x02, 0⟩ } ∧
    (lda.faultState = none ∧ ofNext (ticks 2 lda) (fun t => t.faultState) = some none) ∧
    ofNext (ticks 2 (call 0x0300 none (start 0 0 0 0xFF 0x30 0 [] [(0x0300, 0x02)]))) (fun t => t.faultState.isSome) = some true ∧
    (some 3 = some 3 ∧ (none : Option Nat) ≠ some 3) := by
  refine ⟨by unfold Faulted; decide, ?_⟩
  decide
/-- Each way a run can end. -/
theorem witness_RunsEndWithEveryRecordStopped :
    (match run 0x1000 [0x00] 0x1000 0x1000 0 none with | .next (.completed s) => s.frame == 0 | _ => false) = true ∧
    (match frames 3 0x1000 (some 0) 2 0 lda with | .next (.cancelled s) => s.frame == 1 | _ => false) = true ∧
    (match run 0x10000 [0x00] 0 0 2 none with
      | .next (.faulted s) => s.faultState == some ⟨.loadOverflow, 0, 0, 0⟩ | _ => false) = true := by decide +kernel

end Sys2Proof.Tests
end

/-! ## Loads, stores and transfers (41_load_store_transfer.md)

An instruction of this family is one shared operation given an operand or a store, and the tick count. So each
statement takes one lemma about the operation, one about the access pattern, and per form two facts that compute: the
decoding and the arm of `exec`. -/

namespace Sys2Proof.Proofs

open Sys2Proof.Machine Sys2Proof.Claims

/-! ### Flags as lists -/

/-- A flag byte kept has no flag written. -/
theorem flagsWritten_nil (f : Byte) : FlagsWritten f f [] := fun _ => rfl

/-- `SetNZ(v)` writes N and Z by the value of `v` (00_scope.md R10). -/
theorem flagsWritten_withNZ (f v : Byte) : FlagsWritten f (withNZ f v) (nz v) := by
  have hn : v.msb = decide (128 ≤ v.toNat) := BitVec.msb_eq_decide v
  have hz : (v == 0#8) = decide (v.toNat = 0) := by
    rw [Bool.eq_iff_iff, beq_iff_eq, decide_eq_true_iff]
    exact BitVec.toNat_inj.symm
  intro k
  rw [getFlag_withNZ, hn, hz]
  cases k <;> rfl

/-! ### Operations on an operand that store nothing -/

/-- From `s`, the operation `op` given the operand `m` leaves the state `want m` but for F, in which it writes the flags
`written m`, and leaves memory as it is. -/
structure OperandOp (s : State) (op : Byte → State → State) (want : Byte → State)
    (written : Byte → List (Flag × Bool)) : Prop where
  result : ∀ m, op m s = { want m with f := (op m s).f }
  flags : ∀ m, FlagsWritten s.f (op m s).f (written m)
  regions : ∀ m, (op m s).regions = s.regions
  memory : ∀ m, (op m s).mem = s.mem

theorem operandOp_loadA (s : State) : OperandOp s loadA (fun m => { s with a := m }) nz :=
  ⟨fun _ => rfl, flagsWritten_withNZ s.f, fun _ => rfl, fun _ => rfl⟩

theorem operandOp_loadX (s : State) : OperandOp s loadX (fun m => { s with x := m }) nz :=
  ⟨fun _ => rfl, flagsWritten_withNZ s.f, fun _ => rfl, fun _ => rfl⟩

theorem operandOp_loadY (s : State) : OperandOp s loadY (fun m => { s with y := m }) nz :=
  ⟨fun _ => rfl, flagsWritten_withNZ s.f, fun _ => rfl, fun _ => rfl⟩

theorem operandOp_setSp (s : State) : OperandOp s setSp (fun m => { s with sp := m }) (fun _ => []) :=
  ⟨fun _ => rfl, fun _ => flagsWritten_nil s.f, fun _ => rfl, fun _ => rfl⟩

section Forms

variable {s : State} {op : Byte → State → State} {want : Byte → State} {written : Byte → List (Flag × Bool)}

/-- An instruction whose meaning is the operation and the tick count completes as the operation says. -/
theorem OperandOp.completes (hop : OperandOp s op want written) {bytes : List Byte} {i : Instr} {cycles : Nat}
    {m : Byte} (hi : decode bytes = .ok i [] ∧ exec i s = .next (setCycles cycles (op m s)))
    (hc : 0 < cycles := by decide) : Completes bytes i s cycles (want m) (written m) := by
  obtain ⟨hd, he⟩ := hi
  refine ⟨hd, _, he, Nat.sub_add_cancel hc, congrArg (setCycles cycles) (hop.result m), hop.flags m, fun addr => ?_⟩
  exact memRead_congr (hop.regions m) (congrArg (Memory.read · addr.toNat) (hop.memory m))

/-- The immediate form (40_addressing.md R94). -/
theorem OperandOp.immForm (hop : OperandOp s op want written) {c : ByteForm} {cycles : Nat}
    (hi : ∀ n, decode [c.1, n] = .ok (c.2 n) [] ∧ exec (c.2 n) s = .next (immOp n cycles op s))
    (hc : 0 < cycles := by decide) :
    ImmForm c cycles fun bytes i m cycles => Completes bytes i s cycles (want m) (written m) :=
  fun n => hop.completes (hi n) hc

/-- A form that reads through a one-byte operand (40_addressing.md R105). -/
theorem OperandOp.readByteForm (hop : OperandOp s op want written) {c : ByteForm} {ea : Byte → Resolved} {base : Nat}
    (hi : ∀ n, decode [c.1, n] = .ok (c.2 n) [] ∧ exec (c.2 n) s = .next (readOp (ea n) base op s))
    (hb : 0 < base := by decide) :
    ReadByteForm s c ea base fun bytes i m cycles => Completes bytes i s cycles (want m) (written m) :=
  fun n => hop.completes (hi n) (Nat.add_pos_left hb _)

/-- A form that reads through a word operand (40_addressing.md R105). -/
theorem OperandOp.readWordForm (hop : OperandOp s op want written) {c : WordForm} {ea : Word → Resolved} {base : Nat}
    (hi : ∀ l h, decode [c.1, l, h] = .ok (c.2 (wordOf h l)) [] ∧
      exec (c.2 (wordOf h l)) s = .next (readOp (ea (wordOf h l)) base op s))
    (hb : 0 < base := by decide) :
    ReadWordForm s c ea base fun bytes i m cycles => Completes bytes i s cycles (want m) (written m) :=
  fun l h => hop.completes (hi l h) (Nat.add_pos_left hb _)

end Forms

/-! ### Stores -/

/-- An address in RAM is served by a RAM region. -/
theorem regionAt_of_inRam {s : State} {addr : Word} (h : inRam s addr = true) :
    ∃ r, regionAt s addr = some r ∧ r.kind = .ram := by
  unfold inRam at h
  cases hr : regionAt s addr with
  | none => simp [hr] at h
  | some r => exact ⟨r, rfl, by simpa [hr] using h⟩

/-- An instruction whose meaning is one memory write, an update of registers and F, and the tick count. -/
theorem stores_of_exec {bytes : List Byte} {i : Instr} {s : State} {cycles : Nat} {ea : Word} {v f : Byte}
    {registers : State → State} {written : List (Flag × Bool)} (hd : decode bytes = .ok i [])
    (he : exec i s = .next { registers (memWrite ea v s) with f := f, remaining := cycles - 1 }) (hc : 0 < cycles)
    (hf : FlagsWritten s.f f written)
    (hr : (registers (memWrite ea v s)).regions = (memWrite ea v s).regions)
    (hm : (registers (memWrite ea v s)).mem = (memWrite ea v s).mem) :
    Stores bytes i s cycles ea v registers written := by
  have reads : ∀ addr, memRead { registers (memWrite ea v s) with f := f, remaining := cycles - 1 } addr =
      memRead (memWrite ea v s) addr := fun addr => memRead_congr hr (congrArg (Memory.read · addr.toNat) hm)
  refine ⟨hd, _, he, Nat.sub_add_cancel hc, rfl, hf, fun addr hne => ?_, fun hwf hram => ?_⟩
  · exact (reads addr).trans (memRead_memWrite_other hne)
  · obtain ⟨r, hat, hkind⟩ := regionAt_of_inRam hram
    exact (reads ea).trans (memRead_memWrite_ram hwf hat hkind)

/-- The write pattern stores its byte and changes no register and no flag (40_addressing.md R105). -/
theorem stores_of_storeOp {bytes : List Byte} {i : Instr} {s : State} {cycles : Nat} {r : Resolved} {v : Byte}
    (hi : decode bytes = .ok i [] ∧ exec i s = .next (storeOp r cycles v s)) (hc : 0 < cycles := by decide) :
    Stores bytes i s cycles r.ea v id [] := by
  obtain ⟨hd, he⟩ := hi
  refine stores_of_exec hd (he.trans ?_) hc (flagsWritten_nil s.f) rfl rfl
  rw [storeOp_eq, ← memWrite_f s v r.ea]
  rfl

/-! ### The obligations -/

/-- Settles O22: each form gives its register's load the operand its addressing mode names. -/
theorem loadsTakeTheOperand : Obligations.LoadsTakeTheOperand := by
  intro s
  refine ⟨?lda, ?ldx, ?ldy⟩
  case lda =>
    have h := operandOp_loadA s
    exact ⟨h.immForm fun _ => ⟨rfl, rfl⟩, h.readByteForm fun _ => ⟨rfl, rfl⟩, h.readByteForm fun _ => ⟨rfl, rfl⟩,
      h.readWordForm fun _ _ => ⟨rfl, rfl⟩, h.readWordForm fun _ _ => ⟨rfl, rfl⟩, h.readWordForm fun _ _ => ⟨rfl, rfl⟩,
      h.readByteForm fun _ => ⟨rfl, rfl⟩, h.readByteForm fun _ => ⟨rfl, rfl⟩⟩
  case ldx =>
    have h := operandOp_loadX s
    exact ⟨h.immForm fun _ => ⟨rfl, rfl⟩, h.readByteForm fun _ => ⟨rfl, rfl⟩, h.readByteForm fun _ => ⟨rfl, rfl⟩,
      h.readWordForm fun _ _ => ⟨rfl, rfl⟩, h.readWordForm fun _ _ => ⟨rfl, rfl⟩⟩
  case ldy =>
    have h := operandOp_loadY s
    exact ⟨h.immForm fun _ => ⟨rfl, rfl⟩, h.readByteForm fun _ => ⟨rfl, rfl⟩, h.readByteForm fun _ => ⟨rfl, rfl⟩,
      h.readWordForm fun _ _ => ⟨rfl, rfl⟩, h.readWordForm fun _ _ => ⟨rfl, rfl⟩⟩

/-- Settles O23: each form is the write pattern at the address its addressing mode names. -/
theorem storesWriteTheRegister : Obligations.StoresWriteTheRegister := by
  intro s
  refine ⟨?sta, ?stx, ?sty⟩
  case sta =>
    exact ⟨fun _ => stores_of_storeOp ⟨rfl, rfl⟩, fun _ => stores_of_storeOp ⟨rfl, rfl⟩,
      fun _ _ => stores_of_storeOp ⟨rfl, rfl⟩, fun _ _ => stores_of_storeOp ⟨rfl, rfl⟩,
      fun _ _ => stores_of_storeOp ⟨rfl, rfl⟩, fun _ => stores_of_storeOp ⟨rfl, rfl⟩,
      fun _ => stores_of_storeOp ⟨rfl, rfl⟩⟩
  case stx =>
    exact ⟨fun _ => stores_of_storeOp ⟨rfl, rfl⟩, fun _ => stores_of_storeOp ⟨rfl, rfl⟩,
      fun _ _ => stores_of_storeOp ⟨rfl, rfl⟩⟩
  case sty =>
    exact ⟨fun _ => stores_of_storeOp ⟨rfl, rfl⟩, fun _ => stores_of_storeOp ⟨rfl, rfl⟩,
      fun _ _ => stores_of_storeOp ⟨rfl, rfl⟩⟩

/-- Settles O24: a transfer is a load of the destination with the source register as operand; TXS sets S and no flag. -/
theorem transfersCopyARegister : Obligations.TransfersCopyARegister := fun s =>
  ⟨(operandOp_loadX s).completes ⟨rfl, rfl⟩, (operandOp_loadY s).completes ⟨rfl, rfl⟩,
    (operandOp_loadA s).completes ⟨rfl, rfl⟩, (operandOp_loadA s).completes ⟨rfl, rfl⟩,
    (operandOp_loadX s).completes ⟨rfl, rfl⟩, (operandOp_setSp s).completes ⟨rfl, rfl⟩⟩

end Sys2Proof.Proofs

/-! ## The stack instructions (42_stack.md)

A stack instruction is a push or a pull, an operation on the pulled byte, and the tick count: a push is a store at the
address S names, and an operation after a pull is again an operation that stores nothing. -/

namespace Sys2Proof.Proofs

open Sys2Proof.Machine Sys2Proof.Claims

/-- An instruction whose meaning is a push and the tick count stores at the address S names and decrements S
(20_memory.md R60). -/
theorem stores_of_push {bytes : List Byte} {i : Instr} {s : State} {cycles : Nat} {v : Byte}
    (hi : decode bytes = .ok i [] ∧ exec i s = .next (setCycles cycles (push v s))) (hc : 0 < cycles := by decide) :
    Stores bytes i s cycles (stackAddr s.sp) v (fun t => { t with sp := s.sp - 1 }) [] := by
  obtain ⟨hd, he⟩ := hi
  refine stores_of_exec hd (he.trans ?_) hc (flagsWritten_nil s.f) rfl rfl
  rw [push_eq, ← memWrite_f s v (stackAddr s.sp)]
  rfl

/-- An operation done after a pull: it is given S incremented (20_memory.md R61). -/
def afterPull (op : Byte → State → State) (m : Byte) (s : State) : State := op m (pull s).2

/-- A pull changes S only, so an operation that stores nothing still does so after it. -/
theorem OperandOp.afterPull {s : State} {op : Byte → State → State} {want : Byte → State}
    {written : Byte → List (Flag × Bool)} (hop : OperandOp (pull s).2 op want written) :
    OperandOp s (afterPull op) want written :=
  ⟨hop.result, hop.flags, hop.regions, hop.memory⟩

/-- Settles O25: PHA is the push of A, PLA the load of A with the pulled byte. -/
theorem accumulatorGoesThroughTheStack : Obligations.AccumulatorGoesThroughTheStack := fun s =>
  ⟨stores_of_push ⟨rfl, rfl⟩, (operandOp_loadA (pull s).2).afterPull.completes ⟨rfl, rfl⟩⟩

end Sys2Proof.Proofs

/-! ## The ALU instructions (43_alu.md)

ADC and the comparisons are operations that store nothing, whose flags are given flag by flag. SBC is ADC, and AND, EOR
and ORA are the load of A, given another operand. -/

namespace Sys2Proof.Proofs

open Sys2Proof.Machine Sys2Proof.Claims

/-! ### The sum and its flags -/

theorem adcSum_eq (a m : Byte) (c : Bool) : adcSum a m c = a.toNat + m.toNat + bit c := by cases c <;> rfl

theorem adcResult_eq_addResult (a m : Byte) (c : Bool) : adcResult a m c = addResult a m c := by
  rw [adcResult, adcSum_eq, addResult]
  exact BitVec.eq_of_toNat_eq (by simp)

theorem adcCarry_eq_decide (a m : Byte) (c : Bool) : adcCarry a m c = decide (256 ≤ a.toNat + m.toNat + bit c) := by
  rw [adcCarry_eq, adcSum_eq]

theorem adcOverflow_eq (a m r : Byte) :
    adcOverflow a m r = ((a.getLsbD 7 == m.getLsbD 7) && (a.getLsbD 7 != r.getLsbD 7)) := by
  have hbit (x : Byte) : x.msb = x.getLsbD 7 := BitVec.msb_eq_getLsbD_last x
  have hxnor (x y : Bool) : (!(x ^^ y)) = (x == y) := Bool.not_not _
  rw [adcOverflow, hbit, hbit, hbit, hxnor]

/-- `DoADC(m)` writes C and V, then N and Z by the result (43_alu.md R140). -/
theorem flagsWritten_adcFlags (f a m : Byte) : FlagsWritten f (adcFlags f a m) (addFlags a m (getFlag f .C)) := by
  intro k
  refine (flagsWritten_withNZ _ _ k).trans ?_
  rw [getFlag_putFlag, getFlag_putFlag, adcResult_eq_addResult, adcCarry_eq_decide, adcOverflow_eq]
  cases k <;> rfl

/-- `~m` is `255 - m` (00_scope.md R8). -/
theorem complement_eq_not (m : Byte) : complement m = ~~~ m := by
  apply BitVec.eq_of_toNat_eq
  rw [complement, BitVec.toNat_ofNat, BitVec.toNat_not]
  omega

/-! ### The flags of a comparison -/

/-- The difference plus 256 is the difference of the bytes (43_alu.md R146). -/
theorem ofNat_add_sub_eq_sub (r m : Byte) : BitVec.ofNat 8 (r.toNat + 0x100 - m.toNat) = r - m := by
  apply BitVec.eq_of_toNat_eq
  rw [BitVec.toNat_ofNat, BitVec.toNat_sub]
  have := m.isLt
  omega

theorem flagsWritten_compareFlags (f r m : Byte) : FlagsWritten f (compareFlags f r m) (cmpFlags r m) := by
  intro k
  rw [getFlag_compareFlags, cmpFlags, ofNat_add_sub_eq_sub, ← BitVec.msb_eq_getLsbD_last, ← beq_eq_decide]
  cases k <;> rfl

/-! ### The operations -/

theorem operandOp_doAdc (s : State) :
    OperandOp s doAdc (fun m => { s with a := addResult s.a m (getFlag s.f .C) })
      (fun m => addFlags s.a m (getFlag s.f .C)) where
  result m := by rw [doAdc_eq, adcResult_eq_addResult]
  flags := flagsWritten_adcFlags s.f s.a
  regions _ := rfl
  memory _ := rfl

theorem operandOp_doCompare (s : State) (r : Byte) : OperandOp s (doCompare r) (fun _ => s) (cmpFlags r) :=
  ⟨fun _ => rfl, flagsWritten_compareFlags s.f r, fun _ => rfl, fun _ => rfl⟩

section Forms

variable {s : State} {op : Byte → State → State} {want : Byte → State} {written : Byte → List (Flag × Bool)}

/-- An operation that hands another one the operand `g m` does what that one does to it. -/
theorem OperandOp.comap (hop : OperandOp s op want written) {op' : Byte → State → State} (g : Byte → Byte)
    (h : ∀ m, op' m s = op (g m) s) : OperandOp s op' (fun m => want (g m)) (fun m => written (g m)) where
  result m := by rw [h]; exact hop.result (g m)
  flags m := by rw [h]; exact hop.flags (g m)
  regions m := by rw [h]; exact hop.regions (g m)
  memory m := by rw [h]; exact hop.memory (g m)

/-- The bytes decode to `i`, whose meaning is the operation given the operand `m`, and the tick count. -/
def Runs (s : State) (op : Byte → State → State) (bytes : List Byte) (i : Instr) (m : Byte) (cycles : Nat) : Prop :=
  decode bytes = .ok i [] ∧ exec i s = .next (setCycles cycles (op m s))

section EightForms

variable {imm zp zpx indx indy : ByteForm} {abs absx absy : WordForm}

/-- What follows from a property of one form, which takes at least one tick, follows for all eight. -/
theorem eightForms_imp {P Q : List Byte → Instr → Byte → Nat → Prop}
    (h : ∀ bytes i m cycles, 0 < cycles → P bytes i m cycles → Q bytes i m cycles)
    (hP : EightForms s imm zp zpx abs absx absy indx indy P) :
    EightForms s imm zp zpx abs absx absy indx indy Q := by
  obtain ⟨himm, hzp, hzpx, habs, habsx, habsy, hindx, hindy⟩ := hP
  have hpos (base penalty : Nat) : 0 < base + 1 + penalty := by omega
  exact ⟨fun n => h _ _ _ _ (hpos 1 0) (himm n), fun n => h _ _ _ _ (hpos 2 _) (hzp n),
    fun n => h _ _ _ _ (hpos 3 _) (hzpx n), fun l u => h _ _ _ _ (hpos 3 _) (habs l u),
    fun l u => h _ _ _ _ (hpos 3 _) (habsx l u), fun l u => h _ _ _ _ (hpos 3 _) (habsy l u),
    fun n => h _ _ _ _ (hpos 5 _) (hindx n), fun n => h _ _ _ _ (hpos 4 _) (hindy n)⟩

/-- The eight forms of an operation; that each form decodes and runs the operation is left to computation. -/
theorem OperandOp.eightForms (hop : OperandOp s op want written)
    (hi : EightForms s imm zp zpx abs absx absy indx indy (Runs s op) := by
      exact ⟨fun _ => ⟨rfl, rfl⟩, fun _ => ⟨rfl, rfl⟩, fun _ => ⟨rfl, rfl⟩, fun _ _ => ⟨rfl, rfl⟩,
        fun _ _ => ⟨rfl, rfl⟩, fun _ _ => ⟨rfl, rfl⟩, fun _ => ⟨rfl, rfl⟩, fun _ => ⟨rfl, rfl⟩⟩) :
    EightForms s imm zp zpx abs absx absy indx indy
      fun bytes i m cycles => Completes bytes i s cycles (want m) (written m) :=
  eightForms_imp (fun _ _ _ _ hc hrun => hop.completes hrun hc) hi

end EightForms

end Forms

theorem operandOp_doSbc (s : State) :
    OperandOp s doSbc (fun m => { s with a := addResult s.a (complement m) (getFlag s.f .C) })
      (fun m => addFlags s.a (complement m) (getFlag s.f .C)) :=
  (operandOp_doAdc s).comap complement fun m => by rw [complement_eq_not, doSbc_eq]

/-! ### The obligations -/

/-- Settles O27: each form gives `DoADC` the operand its addressing mode names. -/
theorem adcAddsWithCarry : Obligations.AdcAddsWithCarry := fun s => (operandOp_doAdc s).eightForms

/-- Settles O28: each form gives `DoADC` the complement of the operand its addressing mode names. -/
theorem sbcAddsTheComplement : Obligations.SbcAddsTheComplement := fun s => (operandOp_doSbc s).eightForms

/-- Settles O30: each form loads A with the bitwise combination of A and the operand. -/
theorem logicCombinesBitwise : Obligations.LogicCombinesBitwise := by
  intro s
  have load := operandOp_loadA s
  refine ⟨?and, ?eor, ?ora⟩
  case and =>
    exact eightForms_imp (fun _ _ m _ _ h => ⟨s.a &&& m, fun _ _ => BitVec.getLsbD_and, h⟩)
      (load.comap (op' := doAnd) (s.a &&& ·) fun _ => rfl).eightForms
  case eor =>
    exact eightForms_imp (fun _ _ m _ _ h => ⟨s.a ^^^ m, fun _ _ => BitVec.getLsbD_xor, h⟩)
      (load.comap (op' := doEor) (s.a ^^^ ·) fun _ => rfl).eightForms
  case ora =>
    exact eightForms_imp (fun _ _ m _ _ h => ⟨s.a ||| m, fun _ _ => BitVec.getLsbD_or, h⟩)
      (load.comap (op' := doOra) (s.a ||| ·) fun _ => rfl).eightForms

/-- Settles O32: each form compares its register with the operand its addressing mode names. -/
theorem comparesSetTheFlags : Obligations.ComparesSetTheFlags := by
  intro s
  refine ⟨?cmp, ?cpx, ?cpy⟩
  case cmp => exact (operandOp_doCompare s s.a).eightForms
  case cpx =>
    have h := operandOp_doCompare s s.x
    exact ⟨h.immForm fun _ => ⟨rfl, rfl⟩, h.readByteForm fun _ => ⟨rfl, rfl⟩, h.readWordForm fun _ _ => ⟨rfl, rfl⟩⟩
  case cpy =>
    have h := operandOp_doCompare s s.y
    exact ⟨h.immForm fun _ => ⟨rfl, rfl⟩, h.readByteForm fun _ => ⟨rfl, rfl⟩, h.readWordForm fun _ _ => ⟨rfl, rfl⟩⟩

end Sys2Proof.Proofs

/-! ## Increments and decrements (44_inc_dec_shift.md)

On memory, the operand modified is one memory write and a change of F; on a register, the load of that register with its
modified value. -/

namespace Sys2Proof.Proofs

open Sys2Proof.Machine Sys2Proof.Claims

/-! ### The bytes one more and one less -/

theorem incByte_eq_add_one (v : Byte) : incByte v = v + 1#8 := by
  apply BitVec.eq_of_toNat_eq
  rw [incByte, BitVec.toNat_ofNat, BitVec.toNat_add, Nat.mod_mod]
  rfl

theorem decByte_eq_sub_one (v : Byte) : decByte v = v - 1#8 := by
  apply BitVec.eq_of_toNat_eq
  rw [decByte, BitVec.toNat_ofNat, BitVec.toNat_sub, Nat.mod_mod, Nat.add_comm]
  rfl

/-! ### Operations that modify their operand -/

/-- From `s`, the operation `f` turns the operand `m` into `res m` and leaves `fl m` in F; `SetNZ` of the result after it
completes the flags `written m`. -/
structure ModifyOp (s : State) (f : Byte → State → Byte × State) (res fl : Byte → Byte)
    (written : Byte → List (Flag × Bool)) : Prop where
  result : ∀ m, f m s = (res m, setF (fl m) s)
  flags : ∀ m, FlagsWritten s.f (withNZ (fl m) (res m)) (written m)

theorem modifyOp_doInc (s : State) : ModifyOp s doInc incByte (fun _ => s.f) fun m => nz (incByte m) where
  result m := Prod.ext (incByte_eq_add_one m).symm rfl
  flags m := flagsWritten_withNZ s.f (incByte m)

theorem modifyOp_doDec (s : State) : ModifyOp s doDec decByte (fun _ => s.f) fun m => nz (decByte m) where
  result m := Prod.ext (decByte_eq_sub_one m).symm rfl
  flags m := flagsWritten_withNZ s.f (decByte m)

section Forms

variable {s : State} {f : Byte → State → Byte × State} {res fl : Byte → Byte} {written : Byte → List (Flag × Bool)}

/-- The bytes decode to `i`, whose meaning is the operation on the byte at `ea`, the write back and `SetNZ`. -/
def Modifies (s : State) (f : Byte → State → Byte × State) (bytes : List Byte) (i : Instr) (ea : Word)
    (cycles : Nat) : Prop :=
  decode bytes = .ok i [] ∧ exec i s = .next (rmwOp (plainEa ea) cycles f setNZ s)

/-- Reading, modifying and writing back is one memory write and a change of F: the operation changes F before the write,
`SetNZ` after it, and the write does not look at F (40_addressing.md R105). -/
theorem ModifyOp.stores (hop : ModifyOp s f res fl written) {bytes : List Byte} {i : Instr} {ea : Word} {cycles : Nat}
    (hi : Modifies s f bytes i ea cycles) (hc : 0 < cycles := by decide) :
    Stores bytes i s cycles ea (res (memRead s ea)) id (written (memRead s ea)) := by
  obtain ⟨hd, he⟩ := hi
  refine stores_of_exec hd (he.trans ?_) hc (hop.flags (memRead s ea)) rfl rfl
  rw [rmwOp_eq, hop.result, memWrite_setF]
  rfl

/-- The four memory forms of an operation; that each form decodes and runs the operation is left to computation. -/
theorem ModifyOp.fourForms (hop : ModifyOp s f res fl written) {zp zpx : ByteForm} {abs absx : WordForm}
    (hi : FourForms s zp zpx abs absx (Modifies s f) := by
      exact ⟨fun _ => ⟨rfl, rfl⟩, fun _ => ⟨rfl, rfl⟩, fun _ _ => ⟨rfl, rfl⟩, fun _ _ => ⟨rfl, rfl⟩⟩) :
    FourForms s zp zpx abs absx fun bytes i ea cycles =>
      Stores bytes i s cycles ea (res (memRead s ea)) id (written (memRead s ea)) := by
  obtain ⟨hzp, hzpx, habs, habsx⟩ := hi
  exact ⟨fun n => hop.stores (hzp n), fun n => hop.stores (hzpx n), fun l h => hop.stores (habs l h),
    fun l h => hop.stores (habsx l h)⟩

end Forms

/-! ### The obligation -/

/-- Settles O33: INC and DEC modify the byte at the address their addressing mode names; INX, INY, DEX and DEY load
their register with its value one more or one less. -/
theorem incrementsAndDecrementsWrap : Obligations.IncrementsAndDecrementsWrap := by
  intro s
  refine ⟨(modifyOp_doInc s).fourForms, (modifyOp_doDec s).fourForms, ?inx, ?iny, ?dex, ?dey⟩
  case inx => rw [incByte_eq_add_one]; exact (operandOp_loadX s).completes ⟨rfl, rfl⟩
  case iny => rw [incByte_eq_add_one]; exact (operandOp_loadY s).completes ⟨rfl, rfl⟩
  case dex => rw [decByte_eq_sub_one]; exact (operandOp_loadX s).completes ⟨rfl, rfl⟩
  case dey => rw [decByte_eq_sub_one]; exact (operandOp_loadY s).completes ⟨rfl, rfl⟩

end Sys2Proof.Proofs

/-! ## The flag instructions (46_flag_ops.md)

A flag instruction is a new flag byte and the tick count; NOP keeps the flag byte it finds. -/

namespace Sys2Proof.Proofs

open Sys2Proof.Machine Sys2Proof.Claims

/-- Writing one flag writes exactly that flag (10_state.md R22). -/
theorem flagsWritten_putFlag (f : Byte) (k : Flag) (v : Bool) : FlagsWritten f (putFlag f k v) [(k, v)] :=
  fun j => getFlag_putFlag f k j v

/-- An instruction whose meaning is a new flag byte and the tick count changes nothing else. -/
theorem completes_of_setF {bytes : List Byte} {i : Instr} {s : State} {cycles : Nat} {f : Byte}
    {written : List (Flag × Bool)} (hf : FlagsWritten s.f f written)
    (hi : decode bytes = .ok i [] ∧ exec i s = .next (setCycles cycles (setF f s)))
    (hc : 0 < cycles := by decide) : Completes bytes i s cycles s written := by
  obtain ⟨hd, he⟩ := hi
  exact ⟨hd, _, he, Nat.sub_add_cancel hc, rfl, hf, fun _ => memRead_congr rfl rfl⟩

/-- Settles O37: each instruction is the write of its flag; NOP writes back the flag byte as it is. -/
theorem flagInstructionsWriteOneFlag : Obligations.FlagInstructionsWriteOneFlag := by
  intro s
  refine ⟨?nop, ?clc, ?sec, ?cli, ?sei, ?clv, ?cld, ?sed⟩
  case nop => exact completes_of_setF (flagsWritten_nil s.f) ⟨rfl, rfl⟩
  case clc => exact completes_of_setF (flagsWritten_putFlag s.f .C false) ⟨rfl, rfl⟩
  case sec => exact completes_of_setF (flagsWritten_putFlag s.f .C true) ⟨rfl, rfl⟩
  case cli => exact completes_of_setF (flagsWritten_putFlag s.f .I false) ⟨rfl, rfl⟩
  case sei => exact completes_of_setF (flagsWritten_putFlag s.f .I true) ⟨rfl, rfl⟩
  case clv => exact completes_of_setF (flagsWritten_putFlag s.f .V false) ⟨rfl, rfl⟩
  case cld => exact completes_of_setF (flagsWritten_putFlag s.f .D false) ⟨rfl, rfl⟩
  case sed => exact completes_of_setF (flagsWritten_putFlag s.f .D true) ⟨rfl, rfl⟩

end Sys2Proof.Proofs

/-! ## Encoding (30_encoding.md)

The dispatch table is read row by row, so what holds of it is shown of the rows: every slot binds its opcode to
instructions whose encoding is that opcode and the operand bytes in order. -/

namespace Sys2Proof.Proofs

open Sys2Proof.Machine Sys2Proof.Claims

/-- The slot form of opcode `op` makes instructions whose encoding is `op` and their operand bytes, low byte first
(30_encoding.md R70, R71). -/
def FormEncodes (op : Byte) : SlotForm → Prop
  | .op i => encode i = [op]
  | .opByte make => ∀ n, encode (make n) = [op, n]
  | .opWord make => ∀ w, encode (make w) = [op, lo w, hi w]

/-- The slots of a list are those of the opcodes from `start` on. -/
def RowEncodes : Nat → List (Option Slot) → Prop
  | _, [] => True
  | start, none :: row => RowEncodes (start + 1) row
  | start, some t :: row => FormEncodes (BitVec.ofNat 8 start) t.form ∧ RowEncodes (start + 1) row

theorem RowEncodes.slot {start k : Nat} {row : List (Option Slot)} {t : Slot} (h : RowEncodes start row)
    (ht : row.getD k none = some t) : FormEncodes (BitVec.ofNat 8 (start + k)) t.form := by
  induction row generalizing start k with
  | nil => simp at ht
  | cons slot row ih =>
    cases k with
    | zero =>
      obtain rfl : slot = some t := ht
      exact h.1
    | succ k =>
      have hrow : RowEncodes (start + 1) row := by
        cases slot with
        | none => exact h
        | some _ => exact h.2
      rw [Nat.add_comm k 1, ← Nat.add_assoc]
      exact ih hrow ht

/-- Every row of the dispatch table holds the slots of its sixteen opcodes. -/
theorem rowEncodes_dispatchRows (k : Nat) : RowEncodes (16 * k) (dispatchRows.getD k []) := by
  match k with
  | 0 | 1 | 2 | 3 | 4 | 5 | 6 | 7 | 8 | 9 | 10 | 11 | 12 | 13 | 14 | 15 =>
    simp [dispatchRows, dispatchRow0, dispatchRow1, dispatchRow2, dispatchRow3, dispatchRow4, dispatchRow5,
      dispatchRow6, dispatchRow7, dispatchRow8, dispatchRow9, dispatchRowA, dispatchRowB, dispatchRowC, dispatchRowD,
      dispatchRowE, dispatchRowF, slot0, slot1, slot1p, slot2, slot2p, RowEncodes, FormEncodes, encode]
  | k + 16 => exact trivial

theorem decode_encode (i : Instr) (rest : List Byte) : decode (encode i ++ rest) = .ok i rest := by
  cases i <;> exact congrArg (Decoded.ok · rest) (by simp)

/-- The slot of an opcode makes instructions that start with that opcode (30_encoding.md R70). -/
theorem formEncodes_of_dispatch {op : Byte} {t : Slot} (h : dispatch op = some t) : FormEncodes op t.form := by
  have hop : BitVec.ofNat 8 (16 * (op.toNat / 16) + op.toNat % 16) = op := by
    rw [Nat.div_add_mod, BitVec.ofNat_toNat, BitVec.setWidth_eq]
  exact hop ▸ (rowEncodes_dispatchRows (op.toNat / 16)).slot h

/-- Bytes that decode are an opcode, the operand bytes its slot asks for, and the rest. -/
theorem decode_eq_ok {bytes rest : List Byte} {i : Instr} (h : decode bytes = .ok i rest) :
    ∃ op bs t, bytes = op :: bs ∧ dispatch op = some t ∧
      ((t.form = .op i ∧ bs = rest) ∨
       (∃ make n, t.form = .opByte make ∧ i = make n ∧ bs = n :: rest) ∨
       (∃ make l u, t.form = .opWord make ∧ i = make (wordOf u l) ∧ bs = l :: u :: rest)) := by
  match bytes with
  | [] => cases h
  | op :: bs =>
    unfold decode at h
    cases ht : dispatch op with
    | none => simp [ht] at h
    | some t =>
      refine ⟨op, bs, t, rfl, ht, ?_⟩
      simp only [ht] at h
      split at h <;> cases h
      next hform => exact .inl ⟨hform, rfl⟩
      next hform => exact .inr (.inl ⟨_, _, hform, rfl, rfl⟩)
      next hform => exact .inr (.inr ⟨_, _, _, hform, rfl, rfl⟩)

/-- Settles O5: the opcode selects the slot, whose form puts the operand bytes together again. -/
theorem decodeOfEncodeIsTheInstruction : Obligations.DecodeOfEncodeIsTheInstruction :=
  fun i rest _ => decode_encode i rest

/-- Settles O6: by the form of the slot that the first byte selects. -/
theorem encodeOfDecodeIsTheBytes : Obligations.EncodeOfDecodeIsTheBytes := by
  intro bytes rest i h
  obtain ⟨op, bs, t, rfl, ht, hform⟩ := decode_eq_ok h
  have henc := formEncodes_of_dispatch ht
  obtain ⟨hf, rfl⟩ | ⟨make, n, hf, rfl, rfl⟩ | ⟨make, l, u, hf, rfl, rfl⟩ := hform <;> rw [hf] at henc
  · rw [show encode i = [op] from henc]; rfl
  · rw [show encode (make n) = [op, n] from henc n]; rfl
  · rw [show encode (make (wordOf u l)) = [op, _, _] from henc _, lo_wordOf, hi_wordOf]; rfl

/-- Settles O7: each word, written out, decodes as its row says. -/
theorem specWordsDecodeToTheirInstructions : Obligations.SpecWordsDecodeToTheirInstructions := by
  unfold Obligations.SpecWordsDecodeToTheirInstructions
  decide

/-- Exactly the listed opcodes have no slot (30_encoding.md R76). -/
theorem dispatch_eq_none_iff : ∀ op : Byte, dispatch op = none ↔ op ∈ unsetOpcodes := by decide

/-- A list is rejected for its opcode exactly when the opcode has no slot. -/
theorem decode_eq_unsetSlot_iff (op : Byte) (rest : List Byte) :
    decode (op :: rest) = .rejected (.unsetSlot op) ↔ dispatch op = none := by
  unfold decode
  cases h : dispatch op with
  | none => simp [h]
  | some t => simp only [h, reduceCtorEq, iff_false]; split <;> simp

/-- Settles O9: the property computes for each of the 256 opcodes. -/
theorem slotShapeFollowsTheMode : Obligations.SlotShapeFollowsTheMode := by
  show ∀ op : Byte, ∀ t ∈ dispatch op, _
  decide

end Sys2Proof.Proofs

/-! ## Memory, the stack and operands (20_memory.md, 40_addressing.md) -/

namespace Sys2Proof.Proofs

open Sys2Proof.Machine Sys2Proof.Claims

/-! ### The address space -/

theorem covers_iff (r : Region) (addr : Word) : covers r addr = true ↔ r.start ≤ addr.toNat ∧ addr.toNat ≤ r.stop := by
  simp [covers]

/-- What a region of a kind gives its addresses (20_memory.md R54). -/
theorem served_of_regionAt {s : State} {addr : Word} {r : Region} (v : Byte) (h : regionAt s addr = some r) :
    (r.kind = .ram → memRead s addr = Memory.read s.mem addr.toNat ∧
      memWrite addr v s = { s with mem := Memory.write s.mem addr.toNat v }) ∧
    (r.kind = .sid → memRead s addr = 0 ∧ memWrite addr v s = poke (addr.toNat - r.start) v s) := by
  constructor <;> intro hk <;> simp [memRead, memWrite, h, hk]

theorem unmapped_of_regionAt {s : State} {addr : Word} (v : Byte) (h : regionAt s addr = none) :
    memRead s addr = 0 ∧ memWrite addr v s = s := by
  simp [memRead, memWrite, h]

/-- Settles O15: the lookup finds the first region of the list that covers the address. -/
theorem firstCoveringRegionServesAnAddress : Obligations.FirstCoveringRegionServesAnAddress := by
  intro s addr v
  refine ⟨fun before r after hsplit hbefore hstart hstop => ?mapped, fun hnone => ?unmapped⟩
  case mapped =>
    have hcovers : covers r addr = true := (covers_iff r addr).mpr ⟨hstart, hstop⟩
    refine served_of_regionAt v (List.find?_eq_some_iff_append.mpr ⟨hcovers, before, after, hsplit, fun q hq => ?_⟩)
    simpa using mt (covers_iff q addr).mp (hbefore q hq)
  case unmapped =>
    exact unmapped_of_regionAt v (List.find?_eq_none.mpr fun q hq => mt (covers_iff q addr).mp (hnone q hq))

theorem memRead_memWrite_same {s : State} {addr : Word} {v : Byte} (hm : Memory.wf s.mem)
    (h : inRam s addr = true) : memRead (memWrite addr v s) addr = v := by
  obtain ⟨r, hr, hk⟩ := regionAt_of_inRam h
  exact memRead_memWrite_ram hm hr hk

@[simp] theorem inRam_memWrite (s : State) (addr other : Word) (v : Byte) :
    inRam (memWrite addr v s) other = inRam s other := by simp [inRam]

/-- Outside RAM an address reads as 0 (20_memory.md R52, R54). -/
theorem memRead_of_not_inRam {s : State} {addr : Word} (h : inRam s addr = false) : memRead s addr = 0 := by
  cases hr : regionAt s addr with
  | none => exact (unmapped_of_regionAt 0 hr).1
  | some r =>
    cases hk : r.kind with
    | ram => simp [inRam, hr, hk] at h
    | sid => exact ((served_of_regionAt 0 hr).2 hk).1

/-- A write through the address space changes RAM and the latches at most. -/
theorem memWrite_keeps (addr : Word) (v : Byte) (s : State) :
    memWrite addr v s = { s with mem := (memWrite addr v s).mem, reg := (memWrite addr v s).reg } := by
  simpa [copyBytes] using copyBytes_keeps [v] addr.toNat s

/-- An address for which no byte is listed reads as RAM that nothing has written. -/
theorem Memory.read_of_not_mem {m : Memory} {addr : Nat} (h : ∀ c ∈ m, c.1 ≠ addr) :
    Memory.read m addr = Config.ramInit := by
  induction m with
  | nil => rfl
  | cons c m ih =>
    rw [Memory.read, if_neg (h c List.mem_cons_self), ih fun d hd => h d (List.mem_cons_of_mem c hd)]

theorem memRead_of_not_mem {s : State} {addr : Word} (h : ∀ c ∈ s.mem, c.1 ≠ addr.toNat) : memRead s addr = 0 := by
  cases hram : inRam s addr with
  | false => exact memRead_of_not_inRam hram
  | true =>
    obtain ⟨r, hr, hk⟩ := regionAt_of_inRam hram
    exact ((served_of_regionAt 0 hr).1 hk).1.trans (Memory.read_of_not_mem h)

/-- Settles O16: by whether the address lies in RAM. -/
theorem writtenBytesReadBack : Obligations.WrittenBytesReadBack := fun s addr v =>
  ⟨memRead_memWrite_same,
    fun h => ⟨memRead_of_not_inRam h, memRead_of_not_inRam (by rw [inRam_memWrite, h])⟩,
    memRead_of_not_mem, fun _ h => memRead_memWrite_other h, memWrite_keeps addr v s⟩

/-- Under the default map the first region, the SID sink, serves its 25 addresses and the second, RAM, all others. -/
theorem regionAt_memoryMap {s : State} (hmap : s.regions = Config.memoryMap) (addr : Word) :
    regionAt s addr = some (if 0xD400 ≤ addr.toNat ∧ addr.toNat ≤ 0xD418 then
      ⟨"sid", .sid, 0xD400, 0xD418⟩ else ⟨"ram", .ram, 0x0000, 0xFFFF⟩) := by
  have hlt : addr.toNat ≤ 0xFFFF := by have := addr.isLt; omega
  unfold regionAt
  rw [hmap]
  split <;> simp_all [Config.memoryMap, Config.sidBase, covers]

/-- Settles O17: the SID region comes before the RAM region, which covers every address. -/
theorem defaultMapSplitsTheAddressSpace : Obligations.DefaultMapSplitsTheAddressSpace := by
  intro s addr hmap
  have hat := regionAt_memoryMap hmap addr
  refine ⟨?_, fun i v haddr hi => ?_⟩
  · simp only [inRam, hat]
    split <;> simp_all
  · rw [if_pos (by omega)] at hat
    rw [((served_of_regionAt v hat).2 rfl).2, haddr, Nat.add_sub_cancel_left]

/-! ### The stack -/

theorem stackAddr_toNat (sp : Byte) : (stackAddr sp).toNat = 0x0100 + sp.toNat := by
  have := sp.isLt
  simp [stackAddr, Config.stackBase]
  omega

theorem stackAddr_injective {p q : Byte} (h : stackAddr p = stackAddr q) : p = q := by
  have := congrArg BitVec.toNat h
  rw [stackAddr_toNat, stackAddr_toNat] at this
  exact BitVec.eq_of_toNat_eq (by omega)

@[simp] theorem memRead_setSp (s : State) (sp : Byte) (addr : Word) : memRead (setSp sp s) addr = memRead s addr := rfl

theorem memRead_push (s : State) (v : Byte) (addr : Word) :
    memRead (push v s) addr = memRead (memWrite (stackAddr s.sp) v s) addr := rfl

/-- Settles O18: the pulled address is the pushed one, since S comes back to its old value. -/
theorem pushThenPullGivesTheByteBack : Obligations.PushThenPullGivesTheByteBack := by
  intro s v
  have hdec : BitVec.ofNat 8 ((s.sp.toNat + 255) % 256) = s.sp - 1#8 := decByte_eq_sub_one s.sp
  have hinc : BitVec.ofNat 8 ((s.sp.toNat + 1) % 256) = s.sp + 1#8 := incByte_eq_add_one s.sp
  rw [hdec, hinc]
  refine ⟨stackAddr_toNat s.sp, push_eq v s, pull_fst s, rfl, fun hm hram => ⟨?byte, ?state⟩⟩
  case byte =>
    rw [pull_fst, push_sp, BitVec.sub_add_cancel]
    exact memRead_memWrite_same hm hram
  case state =>
    show setSp ((push v s).sp + 1#8) (push v s) = _
    rw [push_sp, BitVec.sub_add_cancel]
    exact congrArg (setSp · (memWrite (stackAddr s.sp) v s)) (memWrite_sp s v (stackAddr s.sp)).symm

/-- Settles O19: the fetch is the read at PC and PC one further. -/
theorem fetchReadsAtPcAndAdvances : Obligations.FetchReadsAtPcAndAdvances := by
  intro s
  have hpc : BitVec.ofNat 16 ((s.pc.toNat + 1) % 65536) = s.pc + 1#16 := BitVec.eq_of_toNat_eq (by simp)
  exact ⟨fetchByte_fst s, by rw [hpc]; rfl⟩

/-! ### Effective addresses -/

theorem zext_eq_ofNat (b : Byte) : zext b = BitVec.ofNat 16 b.toNat := by
  apply BitVec.eq_of_toNat_eq
  simp [zext]

theorem zext_toNat (b : Byte) : (zext b).toNat = b.toNat := by
  have := b.isLt
  simp [zext]
  omega

theorem add_toNat (a b : Byte) : (a + b).toNat = (a.toNat + b.toNat) % 256 := BitVec.toNat_add a b

/-- A pointer in page zero, low byte first, its second address wrapping in the page (40_addressing.md R102, R103). -/
theorem zpPointer_toNat (zp : Byte) (s : State) :
    (zpPointer zp s).toNat = (memRead s (BitVec.ofNat 16 zp.toNat)).toNat +
      256 * (memRead s (BitVec.ofNat 16 ((zp.toNat + 1) % 256))).toNat := by
  rw [zpPointer, wordOf_toNat, zext_eq_ofNat, zext_eq_ofNat, add_toNat]
  rfl

theorem indexedEa_toNat (base : Word) (index : Byte) :
    (indexedEa base index).ea.toNat = (base.toNat + index.toNat) % 65536 := by
  show (base + zext index).toNat = _
  rw [BitVec.toNat_add, zext_toNat]

/-- The pointer of JMP, low byte first (40_addressing.md R101). -/
theorem eaInd_toNat (wrap : Bool) (ptr : Word) (s : State) :
    (eaInd wrap ptr s).toNat = (memRead s (BitVec.ofNat 16 ptr.toNat)).toNat + 256 * (memRead s (BitVec.ofNat 16
      (if wrap then ptr.toNat / 256 * 256 + (ptr.toNat + 1) % 256 else (ptr.toNat + 1) % 65536))).toNat := by
  have hself : BitVec.ofNat 16 ptr.toNat = ptr := by simp
  rw [eaInd, wordOf_toNat, hself]
  congr 4
  apply BitVec.eq_of_toNat_eq
  have := ptr.isLt
  cases wrap with
  | false => simp
  | true =>
    simp only [if_true, wordOf_toNat, add_toNat, lo_toNat, hi_toNat, BitVec.toNat_ofNat]
    omega

/-- Settles O20: each address is a byte or word sum, or a pointer. -/
theorem effectiveAddressesFollowTheModes : Obligations.EffectiveAddressesFollowTheModes := by
  intro s n w
  refine ⟨zext_toNat n, (zext_toNat _).trans (add_toNat n s.x), (zext_toNat _).trans (add_toNat n s.y), rfl,
    indexedEa_toNat w s.x, indexedEa_toNat w s.y, ?indx, ?indy, eaInd_toNat true w s, eaInd_toNat false w s⟩
  case indx => exact (zpPointer_toNat (n + s.x) s).trans (by rw [add_toNat])
  case indy => exact (indexedEa_toNat _ s.y).trans (by rw [zpPointer_toNat])

theorem hi_eq_iff (v w : Word) : hi v = hi w ↔ v.toNat / 256 = w.toNat / 256 := by
  rw [← hi_toNat, ← hi_toNat, BitVec.toNat_inj]

/-- The indicator of an indexed address in numbers (40_addressing.md R91). -/
theorem indexedEa_penalty_eq (base : Word) (index : Byte) :
    (indexedEa base index).penalty = crossing base.toNat index := by
  rw [crossing, ← indexedEa_toNat]
  simp only [indexedEa, hi_eq_iff, ne_eq, ite_not]

/-- Settles O21: the three indexed modes report the indicator of their sum, the others none. -/
theorem penaltyIsOneWhenTheHighByteChanges : Obligations.PenaltyIsOneWhenTheHighByteChanges := fun s n w =>
  ⟨indexedEa_penalty_eq w s.x, indexedEa_penalty_eq w s.y, indexedEa_penalty_eq (zpPointer n s) s.y, rfl, rfl, rfl,
    rfl, rfl⟩

end Sys2Proof.Proofs

/-! ## What every instruction does

The 193 instructions are 62 operations in their addressing modes. `shapeOf` says which an instruction is, `exec_eq_run`
that its meaning is the run of its shape. A rule about every instruction is then shown of the shapes. -/

namespace Sys2Proof.Proofs

open Sys2Proof.Machine Sys2Proof.Claims

/-! ### Shapes -/

/-- The memory operands (40_addressing.md R95 to R103). -/
inductive Ea where
  | zp (n : Byte) | zpx (n : Byte) | zpy (n : Byte) | indx (n : Byte) | indy (n : Byte)
  | abs (w : Word) | absx (w : Word) | absy (w : Word)

/-- The address of an operand, with its page-cross indicator. -/
def Ea.resolve (s : State) : Ea → Resolved
  | .zp n => eaZp n
  | .zpx n => eaZpx n s
  | .zpy n => eaZpy n s
  | .indx n => eaIndx n s
  | .indy n => eaIndy n s
  | .abs w => eaAbs w
  | .absx w => eaAbsx w s
  | .absy w => eaAbsy w s

/-- The ticks of a read (30_encoding.md section 4). -/
def Ea.readTicks : Ea → Nat
  | .zp _ => 3
  | .zpx _ | .zpy _ | .abs _ | .absx _ | .absy _ => 4
  | .indx _ => 6
  | .indy _ => 5

/-- The ticks of a store. -/
def Ea.storeTicks : Ea → Nat
  | .zp _ => 3
  | .zpx _ | .zpy _ | .abs _ => 4
  | .absx _ | .absy _ => 5
  | .indx _ | .indy _ => 6

/-- The ticks of a read-modify-write. -/
def Ea.modifyTicks : Ea → Nat
  | .zp _ => 5
  | .zpx _ | .zpy _ | .abs _ => 6
  | .absx _ | .absy _ => 7
  | .indx _ | .indy _ => 8

/-- The operations on an operand that store nothing. -/
inductive Operation where
  | lda | ldx | ldy | adc | sbc | and | eor | ora | bit | cmp | cpx | cpy

def Operation.run : Operation → Byte → State → State
  | .lda => loadA
  | .ldx => loadX
  | .ldy => loadY
  | .adc => doAdc
  | .sbc => doSbc
  | .and => doAnd
  | .eor => doEor
  | .ora => doOra
  | .bit => doBit
  | .cmp => compareA
  | .cpx => compareX
  | .cpy => compareY

/-- The operations that modify their operand. -/
inductive Modifier where
  | asl | lsr | rol | ror | inc | dec

def Modifier.run : Modifier → Byte → State → Byte × State
  | .asl => doAsl
  | .lsr => doLsr
  | .rol => doRol
  | .ror => doRor
  | .inc => doInc
  | .dec => doDec

/-- The modifying operations that also act on A (44_inc_dec_shift.md R167 to R170). -/
inductive Shift where
  | asl | lsr | rol | ror

def Shift.modifier : Shift → Modifier
  | .asl => .asl
  | .lsr => .lsr
  | .rol => .rol
  | .ror => .ror

/-- The combined instructions (47_undocumented_rmw.md). -/
inductive Combined where
  | slo | rla | sre | rra | dcp | isc

def Combined.first : Combined → Modifier
  | .slo => .asl
  | .rla => .rol
  | .sre => .lsr
  | .rra => .ror
  | .dcp => .dec
  | .isc => .inc

def Combined.second : Combined → Operation
  | .slo => .ora
  | .rla => .and
  | .sre => .eor
  | .rra => .adc
  | .dcp => .cmp
  | .isc => .sbc

/-- The stores. -/
inductive Store where
  | sta | stx | sty

def Store.source (s : State) : Store → Byte
  | .sta => s.a
  | .stx => s.x
  | .sty => s.y

/-- The transfers, and the increments and decrements of an index register. -/
inductive Move where
  | tax | tay | txa | tya | tsx | txs | inx | iny | dex | dey

def Move.run (s : State) : Move → State
  | .tax => loadX s.a s
  | .tay => loadY s.a s
  | .txa => loadA s.x s
  | .tya => loadA s.y s
  | .tsx => loadX s.sp s
  | .txs => setSp s.x s
  | .inx => loadX (s.x + 1#8) s
  | .iny => loadY (s.y + 1#8) s
  | .dex => loadX (s.x - 1#8) s
  | .dey => loadY (s.y - 1#8) s

/-- The branches. -/
inductive Branch where
  | bpl | bmi | bvc | bvs | bcc | bcs | bne | beq

def Branch.taken (s : State) : Branch → Bool
  | .bpl => !flag .N s
  | .bmi => flag .N s
  | .bvc => !flag .V s
  | .bvs => flag .V s
  | .bcc => !flag .C s
  | .bcs => flag .C s
  | .bne => !flag .Z s
  | .beq => flag .Z s

/-- The flag instructions. -/
inductive FlagOp where
  | clc | sec | cli | sei | clv | cld | sed

def FlagOp.flag : FlagOp → Flag
  | .clc | .sec => .C
  | .cli | .sei => .I
  | .clv => .V
  | .cld | .sed => .D

def FlagOp.value : FlagOp → Bool
  | .clc | .cli | .clv | .cld => false
  | .sec | .sei | .sed => true

/-- An operation in its addressing mode. -/
inductive Shape where
  | imm (o : Operation) (m : Byte)
  | read (o : Operation) (e : Ea)
  | store (r : Store) (e : Ea)
  | modify (k : Modifier) (e : Ea)
  | acc (k : Shift)
  | combine (c : Combined) (e : Ea)
  | move (m : Move)
  | branch (b : Branch) (off : Byte)
  | flag (k : FlagOp)
  | nop | brk | jmp (w : Word) | jmpInd (w : Word) | jsr (w : Word) | rts | rti | pha | php | pla | plp

/-- The state an instruction of this shape leaves. -/
def Shape.run (s : State) : Shape → State
  | .imm o m => immOp m 2 o.run s
  | .read o e => readOp (e.resolve s) e.readTicks o.run s
  | .store r e => storeOp (e.resolve s) e.storeTicks (r.source s) s
  | .modify k e => rmwOp (e.resolve s) e.modifyTicks k.run setNZ s
  | .acc k => accOp k.modifier.run s
  | .combine c e => rmwOp (e.resolve s) e.modifyTicks c.first.run c.second.run s
  | .move m => setCycles 2 (m.run s)
  | .branch b off => branchOp (b.taken s) off s
  | .flag k => setCycles 2 (setFlag k.flag k.value s)
  | .nop => setCycles 2 s
  | .brk => setCycles 7 (setFlag .B true s)
  | .jmp w => setCycles 3 (setPc w s)
  | .jmpInd w => setCycles 5 (setPc (eaInd Config.jmpIndWrap w s) s)
  | .jsr w => setCycles 6 (setPc w (push (lo (s.pc - 1#16)) (push (hi (s.pc - 1#16)) s)))
  | .rts => setCycles 6 (setPc (wordOf (pull (pull s).2).1 (pull s).1 + 1#16) (pull (pull s).2).2)
  | .rti =>
    let t := setF (pulledFlags s.f (pull s).1) (pull s).2
    setCycles 6 (setPc (wordOf (pull (pull t).2).1 (pull t).1) (pull (pull t).2).2)
  | .pha => setCycles 3 (push s.a s)
  | .php => setCycles 3 (push (pushedFlags s.f) s)
  | .pla => setCycles 4 (loadA (pull s).1 (pull s).2)
  | .plp => setCycles 4 (setF (pulledFlags s.f (pull s).1) (pull s).2)

/-- The shape of each instruction. -/
def shapeOf : Instr → Shape
  | .brk => .brk | .php => .php | .jsr w => .jsr w | .plp => .plp | .rti => .rti | .pha => .pha | .jmpAbs w => .jmp w
  | .rts => .rts | .pla => .pla | .jmpInd w => .jmpInd w | .nop => .nop
  | .oraIndx n => .read .ora (.indx n) | .oraZp n => .read .ora (.zp n) | .oraImm n => .imm .ora n
  | .oraAbs w => .read .ora (.abs w) | .oraIndy n => .read .ora (.indy n) | .oraZpx n => .read .ora (.zpx n)
  | .oraAbsy w => .read .ora (.absy w) | .oraAbsx w => .read .ora (.absx w)
  | .sloIndx n => .combine .slo (.indx n) | .sloZp n => .combine .slo (.zp n) | .sloAbs w => .combine .slo (.abs w)
  | .sloIndy n => .combine .slo (.indy n) | .sloZpx n => .combine .slo (.zpx n)
  | .sloAbsy w => .combine .slo (.absy w) | .sloAbsx w => .combine .slo (.absx w)
  | .aslZp n => .modify .asl (.zp n) | .aslAcc => .acc .asl | .aslAbs w => .modify .asl (.abs w)
  | .aslZpx n => .modify .asl (.zpx n) | .aslAbsx w => .modify .asl (.absx w)
  | .bpl off => .branch .bpl off | .bmi off => .branch .bmi off | .bvc off => .branch .bvc off
  | .bvs off => .branch .bvs off | .bcc off => .branch .bcc off | .bcs off => .branch .bcs off
  | .bne off => .branch .bne off | .beq off => .branch .beq off
  | .clc => .flag .clc | .sec => .flag .sec | .cli => .flag .cli | .sei => .flag .sei
  | .clv => .flag .clv | .cld => .flag .cld | .sed => .flag .sed
  | .andIndx n => .read .and (.indx n) | .andZp n => .read .and (.zp n) | .andImm n => .imm .and n
  | .andAbs w => .read .and (.abs w) | .andIndy n => .read .and (.indy n) | .andZpx n => .read .and (.zpx n)
  | .andAbsy w => .read .and (.absy w) | .andAbsx w => .read .and (.absx w)
  | .rlaIndx n => .combine .rla (.indx n) | .rlaZp n => .combine .rla (.zp n) | .rlaAbs w => .combine .rla (.abs w)
  | .rlaIndy n => .combine .rla (.indy n) | .rlaZpx n => .combine .rla (.zpx n)
  | .rlaAbsy w => .combine .rla (.absy w) | .rlaAbsx w => .combine .rla (.absx w)
  | .bitZp n => .read .bit (.zp n) | .bitAbs w => .read .bit (.abs w)
  | .rolZp n => .modify .rol (.zp n) | .rolAcc => .acc .rol | .rolAbs w => .modify .rol (.abs w)
  | .rolZpx n => .modify .rol (.zpx n) | .rolAbsx w => .modify .rol (.absx w)
  | .eorIndx n => .read .eor (.indx n) | .eorZp n => .read .eor (.zp n) | .eorImm n => .imm .eor n
  | .eorAbs w => .read .eor (.abs w) | .eorIndy n => .read .eor (.indy n) | .eorZpx n => .read .eor (.zpx n)
  | .eorAbsy w => .read .eor (.absy w) | .eorAbsx w => .read .eor (.absx w)
  | .sreIndx n => .combine .sre (.indx n) | .sreZp n => .combine .sre (.zp n) | .sreAbs w => .combine .sre (.abs w)
  | .sreIndy n => .combine .sre (.indy n) | .sreZpx n => .combine .sre (.zpx n)
  | .sreAbsy w => .combine .sre (.absy w) | .sreAbsx w => .combine .sre (.absx w)
  | .lsrZp n => .modify .lsr (.zp n) | .lsrAcc => .acc .lsr | .lsrAbs w => .modify .lsr (.abs w)
  | .lsrZpx n => .modify .lsr (.zpx n) | .lsrAbsx w => .modify .lsr (.absx w)
  | .adcIndx n => .read .adc (.indx n) | .adcZp n => .read .adc (.zp n) | .adcImm n => .imm .adc n
  | .adcAbs w => .read .adc (.abs w) | .adcIndy n => .read .adc (.indy n) | .adcZpx n => .read .adc (.zpx n)
  | .adcAbsy w => .read .adc (.absy w) | .adcAbsx w => .read .adc (.absx w)
  | .rraIndx n => .combine .rra (.indx n) | .rraZp n => .combine .rra (.zp n) | .rraAbs w => .combine .rra (.abs w)
  | .rraIndy n => .combine .rra (.indy n) | .rraZpx n => .combine .rra (.zpx n)
  | .rraAbsy w => .combine .rra (.absy w) | .rraAbsx w => .combine .rra (.absx w)
  | .rorZp n => .modify .ror (.zp n) | .rorAcc => .acc .ror | .rorAbs w => .modify .ror (.abs w)
  | .rorZpx n => .modify .ror (.zpx n) | .rorAbsx w => .modify .ror (.absx w)
  | .staIndx n => .store .sta (.indx n) | .staZp n => .store .sta (.zp n) | .staAbs w => .store .sta (.abs w)
  | .staIndy n => .store .sta (.indy n) | .staZpx n => .store .sta (.zpx n) | .staAbsy w => .store .sta (.absy w)
  | .staAbsx w => .store .sta (.absx w)
  | .styZp n => .store .sty (.zp n) | .styAbs w => .store .sty (.abs w) | .styZpx n => .store .sty (.zpx n)
  | .stxZp n => .store .stx (.zp n) | .stxAbs w => .store .stx (.abs w) | .stxZpy n => .store .stx (.zpy n)
  | .dey => .move .dey | .txa => .move .txa | .tya => .move .tya | .txs => .move .txs | .tay => .move .tay
  | .tax => .move .tax | .tsx => .move .tsx | .iny => .move .iny | .dex => .move .dex | .inx => .move .inx
  | .ldyImm n => .imm .ldy n | .ldyZp n => .read .ldy (.zp n) | .ldyAbs w => .read .ldy (.abs w)
  | .ldyZpx n => .read .ldy (.zpx n) | .ldyAbsx w => .read .ldy (.absx w)
  | .ldaIndx n => .read .lda (.indx n) | .ldaZp n => .read .lda (.zp n) | .ldaImm n => .imm .lda n
  | .ldaAbs w => .read .lda (.abs w) | .ldaIndy n => .read .lda (.indy n) | .ldaZpx n => .read .lda (.zpx n)
  | .ldaAbsy w => .read .lda (.absy w) | .ldaAbsx w => .read .lda (.absx w)
  | .ldxImm n => .imm .ldx n | .ldxZp n => .read .ldx (.zp n) | .ldxAbs w => .read .ldx (.abs w)
  | .ldxZpy n => .read .ldx (.zpy n) | .ldxAbsy w => .read .ldx (.absy w)
  | .cpyImm n => .imm .cpy n | .cpyZp n => .read .cpy (.zp n) | .cpyAbs w => .read .cpy (.abs w)
  | .cmpIndx n => .read .cmp (.indx n) | .cmpZp n => .read .cmp (.zp n) | .cmpImm n => .imm .cmp n
  | .cmpAbs w => .read .cmp (.abs w) | .cmpIndy n => .read .cmp (.indy n) | .cmpZpx n => .read .cmp (.zpx n)
  | .cmpAbsy w => .read .cmp (.absy w) | .cmpAbsx w => .read .cmp (.absx w)
  | .dcpIndx n => .combine .dcp (.indx n) | .dcpZp n => .combine .dcp (.zp n) | .dcpAbs w => .combine .dcp (.abs w)
  | .dcpIndy n => .combine .dcp (.indy n) | .dcpZpx n => .combine .dcp (.zpx n)
  | .dcpAbsy w => .combine .dcp (.absy w) | .dcpAbsx w => .combine .dcp (.absx w)
  | .decZp n => .modify .dec (.zp n) | .decAbs w => .modify .dec (.abs w) | .decZpx n => .modify .dec (.zpx n)
  | .decAbsx w => .modify .dec (.absx w)
  | .cpxImm n => .imm .cpx n | .cpxZp n => .read .cpx (.zp n) | .cpxAbs w => .read .cpx (.abs w)
  | .sbcIndx n => .read .sbc (.indx n) | .sbcZp n => .read .sbc (.zp n) | .sbcImm n => .imm .sbc n
  | .sbcAbs w => .read .sbc (.abs w) | .sbcIndy n => .read .sbc (.indy n) | .sbcZpx n => .read .sbc (.zpx n)
  | .sbcAbsy w => .read .sbc (.absy w) | .sbcAbsx w => .read .sbc (.absx w)
  | .iscIndx n => .combine .isc (.indx n) | .iscZp n => .combine .isc (.zp n) | .iscAbs w => .combine .isc (.abs w)
  | .iscIndy n => .combine .isc (.indy n) | .iscZpx n => .combine .isc (.zpx n)
  | .iscAbsy w => .combine .isc (.absy w) | .iscAbsx w => .combine .isc (.absx w)
  | .incZp n => .modify .inc (.zp n) | .incAbs w => .modify .inc (.abs w) | .incZpx n => .modify .inc (.zpx n)
  | .incAbsx w => .modify .inc (.absx w)

/-- Every instruction completes, in the state its shape leaves. -/
theorem exec_eq_run (i : Instr) (s : State) : exec i s = .next ((shapeOf i).run s) := by cases i <;> rfl

/-! ### The slot of a shape -/

def Operation.mnemonic : Operation → String
  | .lda => "LDA" | .ldx => "LDX" | .ldy => "LDY" | .adc => "ADC" | .sbc => "SBC" | .and => "AND" | .eor => "EOR"
  | .ora => "ORA" | .bit => "BIT" | .cmp => "CMP" | .cpx => "CPX" | .cpy => "CPY"

def Modifier.mnemonic : Modifier → String
  | .asl => "ASL" | .lsr => "LSR" | .rol => "ROL" | .ror => "ROR" | .inc => "INC" | .dec => "DEC"

def Combined.mnemonic : Combined → String
  | .slo => "SLO" | .rla => "RLA" | .sre => "SRE" | .rra => "RRA" | .dcp => "DCP" | .isc => "ISC"

def Store.mnemonic : Store → String
  | .sta => "STA" | .stx => "STX" | .sty => "STY"

def Move.mnemonic : Move → String
  | .tax => "TAX" | .tay => "TAY" | .txa => "TXA" | .tya => "TYA" | .tsx => "TSX" | .txs => "TXS" | .inx => "INX"
  | .iny => "INY" | .dex => "DEX" | .dey => "DEY"

def Branch.mnemonic : Branch → String
  | .bpl => "BPL" | .bmi => "BMI" | .bvc => "BVC" | .bvs => "BVS" | .bcc => "BCC" | .bcs => "BCS" | .bne => "BNE"
  | .beq => "BEQ"

def FlagOp.mnemonic : FlagOp → String
  | .clc => "CLC" | .sec => "SEC" | .cli => "CLI" | .sei => "SEI" | .clv => "CLV" | .cld => "CLD" | .sed => "SED"

def Shape.mnemonic : Shape → String
  | .imm o _ | .read o _ => o.mnemonic
  | .store r _ => r.mnemonic
  | .modify k _ => k.mnemonic
  | .acc k => k.modifier.mnemonic
  | .combine c _ => c.mnemonic
  | .move m => m.mnemonic
  | .branch b _ => b.mnemonic
  | .flag k => k.mnemonic
  | .nop => "NOP" | .brk => "BRK" | .jmp _ | .jmpInd _ => "JMP" | .jsr _ => "JSR" | .rts => "RTS" | .rti => "RTI"
  | .pha => "PHA" | .php => "PHP" | .pla => "PLA" | .plp => "PLP"

def Ea.mode : Ea → Mode
  | .zp _ => .zp | .zpx _ => .zpx | .zpy _ => .zpy | .indx _ => .indx | .indy _ => .indy | .abs _ => .abs
  | .absx _ => .absx | .absy _ => .absy

def Shape.mode : Shape → Mode
  | .imm .. => .imm
  | .read _ e | .store _ e | .modify _ e | .combine _ e => e.mode
  | .acc _ => .acc
  | .branch .. => .rel
  | .jmp _ | .jsr _ => .abs
  | .jmpInd _ => .ind
  | .move _ | .flag _ | .nop | .brk | .rts | .rti | .pha | .php | .pla | .plp => .imp

/-- The base tick count of a shape (30_encoding.md section 4). -/
def Shape.base : Shape → Nat
  | .read _ e => e.readTicks
  | .store _ e => e.storeTicks
  | .modify _ e | .combine _ e => e.modifyTicks
  | .imm .. | .acc _ | .move _ | .branch .. | .flag _ | .nop => 2
  | .jmp _ | .pha | .php => 3
  | .pla | .plp => 4
  | .jmpInd _ => 5
  | .jsr _ | .rts | .rti => 6
  | .brk => 7

/-- Only reads pay the page-cross penalty (30_encoding.md R77). -/
def Shape.penalty : Shape → Bool
  | .read _ (.absx _) | .read _ (.absy _) | .read _ (.indy _) => true
  | _ => false

theorem dispatch_opcodeOf_of_encode {i : Instr} {op : Byte} {bs : List Byte} {t : Slot} (he : encode i = op :: bs)
    (ht : dispatch op = some t) : dispatch (opcodeOf i) = some t := by
  rw [opcodeOf, he]
  exact ht

/-- The slot of an instruction holds what its shape says. -/
theorem dispatch_opcodeOf (i : Instr) :
    ∃ form, dispatch (opcodeOf i) =
      some ⟨(shapeOf i).mnemonic, (shapeOf i).mode, (shapeOf i).base, (shapeOf i).penalty, form⟩ := by
  cases i <;> exact ⟨_, dispatch_opcodeOf_of_encode rfl rfl⟩

theorem mnemonicOf_eq (i : Instr) : mnemonicOf i = (shapeOf i).mnemonic := by
  obtain ⟨form, h⟩ := dispatch_opcodeOf i
  rw [mnemonicOf, h]
  rfl

theorem modeOf_eq (i : Instr) : modeOf i = (shapeOf i).mode := by
  obtain ⟨form, h⟩ := dispatch_opcodeOf i
  rw [modeOf, h]
  rfl

/-! ### Ticks -/

/-- The page-cross indicator of an operand in numbers (40_addressing.md R91). -/
def Ea.pageCross (s : State) : Ea → Nat
  | .absx w => crossing ((lo w).toNat + 256 * (hi w).toNat) s.x
  | .absy w => crossing ((lo w).toNat + 256 * (hi w).toNat) s.y
  | .indy n =>
    crossing ((memRead s (BitVec.ofNat 16 n.toNat)).toNat +
      256 * (memRead s (BitVec.ofNat 16 ((n.toNat + 1) % 256))).toNat) s.y
  | _ => 0

def Shape.pageCross (s : State) : Shape → Nat
  | .read _ e | .store _ e | .modify _ e | .combine _ e => e.pageCross s
  | _ => 0

/-- The extra ticks of a taken branch in numbers (45_control.md R183). -/
def Shape.branchExtra (s : State) : Shape → Nat
  | .branch b off =>
    if b.taken s then if (branchTarget s.pc off).toNat / 256 = s.pc.toNat / 256 then 1 else 2 else 0
  | _ => 0

theorem pageCross_eq (i : Instr) (s : State) : pageCross i s = (shapeOf i).pageCross s := by
  rw [pageCross, modeOf_eq]
  cases i <;> rfl

theorem branchExtra_eq (i : Instr) (s : State) : branchExtra i s = (shapeOf i).branchExtra s := by cases i <;> rfl

/-- The tick count of the dispatch table in terms of the shape. -/
theorem cycleCount_eq (i : Instr) (s : State) :
    cycleCount i s = (shapeOf i).base + (if (shapeOf i).penalty then (shapeOf i).pageCross s else 0) +
      (shapeOf i).branchExtra s := by
  obtain ⟨form, h⟩ := dispatch_opcodeOf i
  rw [cycleCount, h, pageCross_eq, branchExtra_eq]

end Sys2Proof.Proofs

/-! ## Rules about every instruction (10_state.md section 1, 30_encoding.md R77) -/

namespace Sys2Proof.Proofs

open Sys2Proof.Machine Sys2Proof.Claims

/-! ### Updates: register changes and memory writes -/

/-- `t` comes from `s` by changes of registers, F and the tick count and by writes through the address space. -/
inductive Updates (s : State) : State → Prop
  | refl : Updates s s
  | registers {t : State} (h : Updates s t) (a x y sp f : Byte) (pc : Word) (n : Nat) :
    Updates s { t with a := a, x := x, y := y, sp := sp, f := f, pc := pc, remaining := n }
  | write {t : State} (h : Updates s t) (addr : Word) (v : Byte) : Updates s (memWrite addr v t)

/-- What no update touches: the host's part of the state (10_state.md section 5). -/
theorem Updates.host {s t : State} (h : Updates s t) :
    t.regions = s.regions ∧ t.notes = s.notes ∧ t.frame = s.frame ∧ t.warnings = s.warnings ∧
      t.faultState = s.faultState := by
  induction h with
  | refl => exact ⟨rfl, rfl, rfl, rfl, rfl⟩
  | registers _ _ _ _ _ _ _ _ ih => exact ih
  | write _ addr v ih => simpa using ih

theorem Updates.memory_wf {s t : State} (h : Updates s t) (hs : Memory.wf s.mem) : Memory.wf t.mem := by
  induction h with
  | refl => exact hs
  | registers _ _ _ _ _ _ _ _ ih => exact ih
  | write _ _ _ ih => exact memWrite_keeps_wf ih

section Updates

variable {s t : State} (h : Updates s t)
include h

theorem Updates.setCycles (n : Nat) : Updates s (setCycles n t) := h.registers ..
theorem Updates.setF (f : Byte) : Updates s (setF f t) := h.registers ..
theorem Updates.setPc (pc : Word) : Updates s (setPc pc t) := h.registers ..
theorem Updates.setSp (sp : Byte) : Updates s (setSp sp t) := h.registers ..
theorem Updates.pull : Updates s (pull t).2 := h.setSp _
theorem Updates.push (v : Byte) : Updates s (push v t) := (h.write _ v).setSp _

theorem Updates.operation (o : Operation) (m : Byte) : Updates s (o.run m t) := by
  cases o <;> exact h.registers ..

theorem Updates.modifier (k : Modifier) (m : Byte) : Updates s (k.run m t).2 := by
  cases k <;> exact h.registers ..

theorem Updates.move (m : Move) : Updates s (m.run t) := by
  cases m <;> exact h.registers ..

end Updates

/-- An instruction only updates registers and writes through the address space. -/
theorem updates_run (s : State) (sh : Shape) : Updates s (sh.run s) := by
  have h : Updates s s := .refl
  cases sh with
  | imm o m => exact (h.operation o m).setCycles _
  | read o e => exact (h.operation o _).setCycles _
  | store r e => exact (h.write _ _).setCycles _
  | modify k e => exact (((h.modifier k _).write _ _).setF _).setCycles _
  | acc k => exact ((h.modifier k.modifier _).operation .lda _).setCycles _
  | combine c e => exact (((h.modifier c.first _).write _ _).operation c.second _).setCycles _
  | move m => exact (h.move m).setCycles _
  | branch b off =>
    show Updates s (branchOp _ off s)
    unfold branchOp
    dsimp only
    split
    · exact (h.setPc _).setCycles _
    · exact h.setCycles _
  | flag k => exact (h.setF _).setCycles _
  | nop => exact h.setCycles _
  | brk => exact (h.setF _).setCycles _
  | jmp w => exact (h.setPc w).setCycles _
  | jmpInd w => exact (h.setPc _).setCycles _
  | jsr w => exact (((h.push _).push _).setPc w).setCycles _
  | rts => exact (h.pull.pull.setPc _).setCycles _
  | rti => exact ((h.pull.setF _).pull.pull.setPc _).setCycles _
  | pha => exact (h.push _).setCycles _
  | php => exact (h.push _).setCycles _
  | pla => exact (h.pull.operation .lda _).setCycles _
  | plp => exact (h.pull.setF _).setCycles _

/-! ### Flags -/

/-- The flags an operation writes (10_state.md R23 to R25). -/
def Operation.flags : Operation → List Flag
  | .lda | .ldx | .ldy | .and | .eor | .ora => [.Z, .N]
  | .adc | .sbc => [.Z, .N, .V, .C]
  | .bit => [.Z, .N, .V]
  | .cmp | .cpx | .cpy => [.Z, .N, .C]

def Modifier.flags : Modifier → List Flag
  | .asl | .lsr | .rol | .ror => [.C]
  | .inc | .dec => []

def Move.flags : Move → List Flag
  | .txs => []
  | _ => [.Z, .N]

def Shape.flags : Shape → List Flag
  | .imm o _ | .read o _ => o.flags
  | .modify k _ => k.flags ++ [.Z, .N]
  | .acc k => k.modifier.flags ++ [.Z, .N]
  | .combine c _ => c.first.flags ++ c.second.flags
  | .move m => m.flags
  | .flag k => [k.flag]
  | .brk => [.B]
  | .rti | .plp => [.C, .Z, .I, .D, .V, .N]
  | .pla => [.Z, .N]
  | .store .. | .branch .. | .nop | .jmp _ | .jmpInd _ | .jsr _ | .rts | .pha | .php => []

/-- No instruction writes the unused flag (10_state.md R29). -/
theorem Shape.unused_not_mem_flags (sh : Shape) : Flag.U ∉ sh.flags := by
  cases sh with
  | imm o _ | read o _ => cases o <;> simp [flags, Operation.flags]
  | modify k _ => cases k <;> simp [flags, Modifier.flags]
  | acc k => cases k <;> simp [flags, Shift.modifier, Modifier.flags]
  | combine c _ => cases c <;> simp [flags, Combined.first, Combined.second, Modifier.flags, Operation.flags]
  | move m => cases m <;> simp [flags, Move.flags]
  | flag k => cases k <;> simp [flags, FlagOp.flag]
  | _ => simp [flags]

theorem Operation.flag_kept {o : Operation} {k : Flag} (hk : k ∉ o.flags) (m : Byte) (s : State) :
    getFlag (o.run m s).f k = getFlag s.f k := by
  cases o <;> simp_all [Operation.flags, Operation.run, loadA, loadX, loadY, doAdc, doSbc, doAnd, doEor, doOra, doBit,
    compareA, compareX, compareY, doCompare]

theorem Modifier.flag_kept {o : Modifier} {k : Flag} (hk : k ∉ o.flags) (m : Byte) (s : State) :
    getFlag (o.run m s).2.f k = getFlag s.f k := by
  cases o <;> simp_all [Modifier.flags, Modifier.run, doAsl, doLsr, doRol, doRor, doInc, doDec]

theorem Move.flag_kept {m : Move} {k : Flag} (hk : k ∉ m.flags) (s : State) :
    getFlag (m.run s).f k = getFlag s.f k := by
  cases m <;> simp_all [Move.flags, Move.run, loadA, loadX, loadY]

/-- A branch changes PC and the tick count only. -/
theorem branchOp_keeps (cond : Bool) (off : Byte) (s : State) :
    branchOp cond off s = { s with pc := (branchOp cond off s).pc, remaining := (branchOp cond off s).remaining } := by
  obtain ⟨-, e⟩ | ⟨-, -, e⟩ | ⟨-, -, e⟩ := branchOp_cases cond off s <;> rw [e]

/-- An instruction keeps every flag its shape does not list. -/
theorem Shape.flag_kept {sh : Shape} {k : Flag} (hk : k ∉ sh.flags) (s : State) :
    getFlag (sh.run s).f k = getFlag s.f k := by
  cases sh with
  | imm o m => exact Operation.flag_kept hk m s
  | read o e => exact Operation.flag_kept hk _ s
  | modify o e =>
    obtain ⟨ho, hnz⟩ := not_or.mp (mt List.mem_append.mpr hk)
    simp_all [Shape.run, rmwOp, Modifier.flag_kept ho]
  | acc o =>
    obtain ⟨ho, hnz⟩ := not_or.mp (mt List.mem_append.mpr hk)
    exact (Operation.flag_kept (o := .lda) hnz _ _).trans (Modifier.flag_kept ho s.a s)
  | combine c e =>
    obtain ⟨ho, hnz⟩ := not_or.mp (mt List.mem_append.mpr hk)
    simp [Shape.run, rmwOp, Operation.flag_kept hnz, Modifier.flag_kept ho]
  | move m => exact Move.flag_kept hk s
  | branch b off => exact congrArg (fun t => getFlag t.f k) (branchOp_keeps _ off s)
  | flag o => simp_all [Shape.run, Shape.flags]
  | brk => simp_all [Shape.run, Shape.flags]
  | rti | plp =>
    have hbu : k = .B ∨ k = .U := by cases k <;> simp_all [Shape.flags]
    simp [Shape.run, hbu]
  | pla => simp_all [Shape.run, Shape.flags, loadA]
  | store r e => simp [Shape.run, storeOp]
  | nop | jmp w | jmpInd w | jsr w | rts | pha | php => simp [Shape.run]

/-! ### Registers -/

/-- The byte registers (10_state.md R21, R32). -/
inductive Register where
  | a | x | y | s
  deriving DecidableEq

def Register.get (t : State) : Register → Byte
  | .a => t.a
  | .x => t.x
  | .y => t.y
  | .s => t.sp

/-- The register an operation writes, if any (10_state.md R21). -/
def Operation.registers : Operation → List Register
  | .lda | .adc | .sbc | .and | .eor | .ora => [.a]
  | .ldx => [.x]
  | .ldy => [.y]
  | .bit | .cmp | .cpx | .cpy => []

def Move.registers : Move → List Register
  | .txa | .tya => [.a]
  | .tax | .tsx | .inx | .dex => [.x]
  | .tay | .iny | .dey => [.y]
  | .txs => [.s]

def Shape.registers : Shape → List Register
  | .imm o _ | .read o _ => o.registers
  | .acc _ => [.a]
  | .combine c _ => c.second.registers
  | .move m => m.registers
  | .jsr _ | .rts | .rti | .pha | .php | .plp => [.s]
  | .pla => [.a, .s]
  | .store .. | .modify .. | .branch .. | .flag _ | .nop | .brk | .jmp _ | .jmpInd _ => []

theorem Operation.register_kept {o : Operation} {r : Register} (hr : r ∉ o.registers) (m : Byte) (s : State) :
    r.get (o.run m s) = r.get s := by
  cases r <;> cases o <;> simp_all [Operation.registers, Operation.run, Register.get, loadA, loadX, loadY, doAdc, doSbc,
    doAnd, doEor, doOra, doBit, compareA, compareX, compareY, doCompare]

theorem Modifier.register_kept (o : Modifier) (r : Register) (m : Byte) (s : State) :
    r.get (o.run m s).2 = r.get s := by
  cases o <;> cases r <;> rfl

theorem Move.register_kept {m : Move} {r : Register} (hr : r ∉ m.registers) (s : State) :
    r.get (m.run s) = r.get s := by
  cases r <;> cases m <;> simp_all [Move.registers, Move.run, Register.get, loadA, loadX, loadY]

theorem Register.get_memWrite (r : Register) (addr : Word) (v : Byte) (s : State) :
    r.get (memWrite addr v s) = r.get s := by
  cases r <;> simp [Register.get]

/-- An instruction keeps every register its shape does not list. -/
theorem Shape.register_kept {sh : Shape} {r : Register} (hr : r ∉ sh.registers) (s : State) :
    r.get (sh.run s) = r.get s := by
  cases sh with
  | imm o m => exact Operation.register_kept hr m s
  | read o e => exact Operation.register_kept hr _ s
  | store o e => exact r.get_memWrite _ _ s
  | modify o e => exact (r.get_memWrite _ _ _).trans (o.register_kept r _ s)
  | acc o =>
    exact (Operation.register_kept (o := .lda) hr (o.modifier.run s.a s).1 (o.modifier.run s.a s).2).trans
      (o.modifier.register_kept r s.a s)
  | combine c e =>
    exact ((Operation.register_kept hr _ _).trans (r.get_memWrite _ _ _)).trans (c.first.register_kept r _ s)
  | move m => exact Move.register_kept hr s
  | branch b off => exact (congrArg (Register.get · r) (branchOp_keeps _ off s)).trans rfl
  | flag _ | nop | brk | jmp w | jmpInd w => rfl
  | jsr w | rts | rti | pha | php | plp | pla => cases r <;> simp_all [Shape.registers, Shape.run, Register.get, loadA]

/-! ### Ticks -/

/-- A resolver reports the indicator in numbers, which is 0 in the modes that report none (40_addressing.md R91). -/
theorem Ea.penalty_eq (e : Ea) (s : State) : (e.resolve s).penalty = e.pageCross s := by
  have hword (w : Word) : (lo w).toNat + 256 * (hi w).toNat = w.toNat := by rw [← wordOf_toNat, wordOf_hi_lo]
  cases e with
  | indy n => exact (indexedEa_penalty_eq _ s.y).trans (by rw [zpPointer_toNat]; rfl)
  | absx w => exact (indexedEa_penalty_eq w s.x).trans (by rw [pageCross, hword])
  | absy w => exact (indexedEa_penalty_eq w s.y).trans (by rw [pageCross, hword])
  | _ => rfl

theorem Ea.readTicks_pos (e : Ea) : 0 < e.readTicks := by cases e <;> simp [readTicks]

theorem Ea.storeTicks_pos (e : Ea) : 0 < e.storeTicks := by cases e <;> simp [storeTicks]

theorem Ea.modifyTicks_pos (e : Ea) : 0 < e.modifyTicks := by cases e <;> simp [modifyTicks]

theorem signed_eq_toInt (b : Byte) : signed b = b.toInt := by
  rw [signed, BitVec.toInt_eq_toNat_cond]
  split <;> split <;> omega

/-- The target of a branch in numbers (45_control.md R183). -/
theorem branchTarget_eq (pc : Word) (off : Byte) : branchTarget pc off = pc + sext off := by
  rw [branchTarget, signed_eq_toInt, BitVec.ofInt_add]
  simp [sext, BitVec.signExtend]

theorem branchOp_remaining (cond : Bool) (off : Byte) (s : State) :
    (branchOp cond off s).remaining + 1 = 2 +
      if cond then if (branchTarget s.pc off).toNat / 256 = s.pc.toNat / 256 then 1 else 2 else 0 := by
  simp only [branchTarget_eq, ← hi_eq_iff]
  obtain ⟨hc, e⟩ | ⟨hc, hpage, e⟩ | ⟨hc, hpage, e⟩ := branchOp_cases cond off s <;> rw [e] <;> simp [*]

/-- An instruction takes the ticks of its slot. -/
theorem Shape.remaining_eq (sh : Shape) (s : State) :
    (sh.run s).remaining + 1 = sh.base + (if sh.penalty then sh.pageCross s else 0) + sh.branchExtra s := by
  cases sh with
  | read o e =>
    have hpen : (if (Shape.read o e).penalty then e.pageCross s else 0) = (e.resolve s).penalty := by
      rw [e.penalty_eq]
      cases e <;> rfl
    exact (Nat.sub_add_cancel (Nat.add_pos_left e.readTicks_pos _)).trans (congrArg (e.readTicks + ·) hpen.symm)
  | store r e => exact Nat.sub_add_cancel e.storeTicks_pos
  | modify k e => exact Nat.sub_add_cancel e.modifyTicks_pos
  | combine c e => exact Nat.sub_add_cancel e.modifyTicks_pos
  | branch b off => exact branchOp_remaining _ off s
  | _ => rfl

/-- Settles O14: the slot's counts are those of the shape, by which the shape's run sets the ticks that remain. -/
theorem everyInstructionTakesItsTableTicks : Obligations.EveryInstructionTakesItsTableTicks := fun i s =>
  ⟨_, exec_eq_run i s, ((shapeOf i).remaining_eq s).trans (cycleCount_eq i s).symm⟩

/-- An instruction leaves at most 7 ticks to wait (60_exceptions.md R281). -/
theorem Shape.remaining_le (sh : Shape) (s : State) : (sh.run s).remaining ≤ 7 := by
  cases sh with
  | read o e =>
    have hticks : e.readTicks ≤ 6 := by cases e <;> simp [Ea.readTicks]
    have hpen : (e.resolve s).penalty ≤ 1 := by
      cases e with
      | absx w | absy w | indy n => exact indexedEa_penalty _ _
      | _ => exact Nat.zero_le 1
    show e.readTicks + (e.resolve s).penalty - 1 ≤ 7
    omega
  | store r e =>
    show e.storeTicks - 1 ≤ 7
    cases e <;> simp [Ea.storeTicks]
  | modify k e | combine c e =>
    show e.modifyTicks - 1 ≤ 7
    cases e <;> simp [Ea.modifyTicks]
  | branch b off =>
    show (branchOp _ off s).remaining ≤ 7
    obtain ⟨-, e⟩ | ⟨-, -, e⟩ | ⟨-, -, e⟩ := branchOp_cases (b.taken s) off s <;> rw [e] <;> simp
  | _ => simp [Shape.run, immOp, accOp]

/-! ### The core invariant -/

/-- An instruction keeps the core invariant. -/
theorem Shape.run_keeps_coreInv {s : State} (h : CoreInv s) (sh : Shape) : CoreInv (sh.run s) where
  memory := (updates_run s sh).memory_wf h.memory
  waiting := sh.remaining_le s
  unusedFlag := by
    have hU : .U ∉ sh.flags := sh.unused_not_mem_flags
    exact (Shape.flag_kept hU s).trans h.unusedFlag
  regions := (updates_run s sh).host.1 ▸ h.regions

/-! ### Who writes what -/


theorem shapeOf_eq_brk_iff (i : Instr) : shapeOf i = .brk ↔ i = .brk := by cases i <;> simp [shapeOf]

/-- An instruction that writes a register is in the register's list (10_state.md R21). -/
theorem Shape.mnemonic_of_register (sh : Shape) :
    (.a ∈ sh.registers → sh.mnemonic ∈ writesA ∨ ∃ k, sh = .acc k) ∧
    (.x ∈ sh.registers → sh.mnemonic ∈ writesX) ∧ (.y ∈ sh.registers → sh.mnemonic ∈ writesY) ∧
    (.s ∈ sh.registers → sh.mnemonic ∈ writesS) := by
  cases sh with
  | imm o _ | read o _ =>
    cases o <;> simp [registers, Operation.registers, mnemonic, Operation.mnemonic, writesA, writesX, writesY]
  | acc k => exact ⟨fun _ => .inr ⟨k, rfl⟩, by simp [registers]⟩
  | combine c _ =>
    cases c <;> simp [registers, Combined.second, Operation.registers, mnemonic, Combined.mnemonic, writesA]
  | move m =>
    cases m <;> simp [registers, Move.registers, mnemonic, Move.mnemonic, writesA, writesX, writesY, writesS]
  | _ => simp [registers, mnemonic, writesA, writesS]

/-- An instruction that writes a flag is in the flag's list, and only BRK writes B (10_state.md R23 to R28). -/
theorem Shape.mnemonic_of_flag (sh : Shape) :
    (.C ∈ sh.flags → sh.mnemonic ∈ writesC) ∧ (.Z ∈ sh.flags ∨ .N ∈ sh.flags → sh.mnemonic ∈ writesNZ) ∧
    (.V ∈ sh.flags → sh.mnemonic ∈ writesV) ∧ (.I ∈ sh.flags → sh.mnemonic ∈ ["CLI", "SEI", "PLP", "RTI"]) ∧
    (.D ∈ sh.flags → sh.mnemonic ∈ ["CLD", "SED", "PLP", "RTI"]) ∧ (.B ∈ sh.flags → sh = .brk) := by
  cases sh with
  | imm o _ | read o _ =>
    cases o <;> simp [flags, Operation.flags, mnemonic, Operation.mnemonic, writesC, writesNZ, writesV]
  | modify k _ => cases k <;> simp [flags, Modifier.flags, mnemonic, Modifier.mnemonic, writesC, writesNZ, shifts]
  | acc k =>
    cases k <;> simp [flags, Shift.modifier, Modifier.flags, mnemonic, Modifier.mnemonic, writesC, writesNZ, shifts]
  | combine c _ =>
    cases c <;> simp [flags, Combined.first, Combined.second, Modifier.flags, Operation.flags, mnemonic,
      Combined.mnemonic, writesC, writesNZ, writesV]
  | move m => cases m <;> simp [flags, Move.flags, mnemonic, Move.mnemonic, writesNZ]
  | flag k => cases k <;> simp [flags, FlagOp.flag, mnemonic, FlagOp.mnemonic, writesC, writesV]
  | _ => simp [flags, mnemonic, writesC, writesNZ, writesV]

/-- Settles O43: what an instruction changes its shape lists, and the mnemonics of the shapes that list it are those of
the statement. -/
theorem registersChangeOnlyByTheirWriters : Obligations.RegistersChangeOnlyByTheirWriters := by
  intro i s t ht
  obtain rfl : (shapeOf i).run s = t := by simpa [exec_eq_run] using ht
  obtain ⟨hA, hX, hY, hS⟩ := (shapeOf i).mnemonic_of_register
  obtain ⟨hC, hNZ, hV, hI, hD, hB⟩ := (shapeOf i).mnemonic_of_flag
  have register {r : Register} (h : r.get ((shapeOf i).run s) ≠ r.get s) : r ∈ (shapeOf i).registers :=
    of_not_not fun hr => h (Shape.register_kept hr s)
  have flag {k : Flag} (h : getFlag ((shapeOf i).run s).f k ≠ getFlag s.f k) : k ∈ (shapeOf i).flags :=
    of_not_not fun hk => h (Shape.flag_kept hk s)
  rw [mnemonicOf_eq]
  refine ⟨fun h => ?a, fun h => hX (register (r := .x) h), fun h => hY (register (r := .y) h),
    fun h => hS (register (r := .s) h), fun h => hC (flag h), fun h => hNZ (h.imp flag flag), fun h => hV (flag h),
    fun h => hI (flag h), fun h => hD (flag h), ?b, Shape.flag_kept (shapeOf i).unused_not_mem_flags s⟩
  case a =>
    obtain h | ⟨k, hacc⟩ := hA (register (r := .a) h)
    · exact .inl h
    · rw [modeOf_eq, hacc]
      exact .inr ⟨by cases k <;> simp [Shape.mnemonic, Shift.modifier, Modifier.mnemonic, shifts], rfl⟩
  case b =>
    by_cases hbrk : i = .brk
    · subst hbrk
      simp [shapeOf, Shape.run]
    · rw [Shape.flag_kept (fun h => hbrk ((shapeOf_eq_brk_iff i).mp (hB h)))]
      simp [hbrk]

end Sys2Proof.Proofs

/-! ## D and I are plain storage (10_state.md R26, R27) -/

namespace Sys2Proof.Proofs

open Sys2Proof.Machine Sys2Proof.Claims

/-- The second state is `s` with another flag byte, which differs from that of `s` in flag `k` at most. -/
inductive AgreesBut (k : Flag) (s : State) : State → Prop
  | intro (g : Byte) (hg : ∀ j, j ≠ k → getFlag g j = getFlag s.f j) : AgreesBut k s (setF g s)

theorem AgreesBut.sameBut {k : Flag} {s u : State} (h : AgreesBut k s u) : SameBut k s u := by
  obtain ⟨g, hg⟩ := h
  exact ⟨rfl, hg⟩

theorem agreesBut_setFlag (k : Flag) (b : Bool) (s : State) : AgreesBut k s (setFlag k b s) :=
  .intro (putFlag s.f k b) fun j hj => by simp [hj]

section AgreesBut

variable {k : Flag} {s u : State} (h : AgreesBut k s u)
include h

theorem AgreesBut.setCycles (n : Nat) : AgreesBut k (setCycles n s) (setCycles n u) := by
  obtain ⟨g, hg⟩ := h
  exact .intro g hg

theorem AgreesBut.setPc (w : Word) : AgreesBut k (setPc w s) (setPc w u) := by
  obtain ⟨g, hg⟩ := h
  exact .intro g hg

theorem AgreesBut.setSp (v : Byte) : AgreesBut k (setSp v s) (setSp v u) := by
  obtain ⟨g, hg⟩ := h
  exact .intro g hg

theorem AgreesBut.setFlag (j : Flag) (b : Bool) : AgreesBut k (setFlag j b s) (setFlag j b u) := by
  obtain ⟨g, hg⟩ := h
  exact .intro (putFlag g j b) fun l hl => by simp [hg l hl]

theorem AgreesBut.setNZ (v : Byte) : AgreesBut k (setNZ v s) (setNZ v u) := by
  obtain ⟨g, hg⟩ := h
  exact .intro (withNZ g v) fun l hl => by simp [hg l hl]

theorem AgreesBut.setF_pulledFlags (v : Byte) :
    AgreesBut k (setF (pulledFlags s.f v) s) (setF (pulledFlags u.f v) u) := by
  obtain ⟨g, hg⟩ := h
  exact .intro (pulledFlags g v) fun l hl => by simp [hg l hl]

theorem AgreesBut.memWrite (addr : Word) (v : Byte) : AgreesBut k (memWrite addr v s) (memWrite addr v u) := by
  obtain ⟨g, hg⟩ := h
  rw [memWrite_setF]
  exact .intro g (by simpa using hg)

theorem AgreesBut.push (v : Byte) : AgreesBut k (push v s) (push v u) := by
  have hsp : u.sp = s.sp := by obtain ⟨g, hg⟩ := h; rfl
  unfold Machine.push
  rw [hsp]
  exact (h.memWrite _ v).setSp _

/-- No operation reads a flag but C. -/
theorem AgreesBut.operation (hk : k ≠ .C) (o : Operation) (m : Byte) : AgreesBut k (o.run m s) (o.run m u) := by
  obtain ⟨g, hg⟩ := h
  have hC := hg .C hk.symm
  have hrun : o.run m (setF g s) = setF (o.run m (setF g s)).f (o.run m s) := by
    cases o with
    | adc | sbc => simp [Operation.run, doSbc, doAdc, flag, hC, setF, setA]
    | _ => rfl
  rw [hrun]
  refine .intro _ fun l hl => ?_
  cases o <;> simp [Operation.run, loadA, loadX, loadY, doSbc, doAdc, doAnd, doEor, doOra, doBit, compareA, compareX,
    compareY, doCompare, hC, hg l hl]

theorem AgreesBut.modifier (hk : k ≠ .C) (o : Modifier) (m : Byte) :
    (o.run m u).1 = (o.run m s).1 ∧ AgreesBut k (o.run m s).2 (o.run m u).2 := by
  have hC : flag .C u = flag .C s := by
    obtain ⟨g, hg⟩ := h
    exact hg .C hk.symm
  cases o with
  | inc | dec => exact ⟨rfl, h⟩
  | asl | lsr => exact ⟨rfl, h.setFlag _ _⟩
  | rol | ror => exact ⟨by simp only [Modifier.run, doRol, doRor, hC], h.setFlag _ _⟩

theorem AgreesBut.rmwOp (hk : k ≠ .C) (r : Resolved) (base : Nat) (o : Modifier) {op : Byte → State → State}
    (hop : ∀ v {s u}, AgreesBut k s u → AgreesBut k (op v s) (op v u)) :
    AgreesBut k (rmwOp r base o.run op s) (rmwOp r base o.run op u) := by
  have hread : memRead u r.ea = memRead s r.ea := by
    obtain ⟨g, hg⟩ := h
    rfl
  obtain ⟨hv, ho⟩ := h.modifier hk o (memRead s r.ea)
  rw [rmwOp_eq, rmwOp_eq, hread, hv]
  exact (hop _ (ho.memWrite r.ea _)).setCycles base

theorem AgreesBut.accOp (hk : k ≠ .C) (o : Modifier) : AgreesBut k (accOp o.run s) (accOp o.run u) := by
  have ha : u.a = s.a := by
    obtain ⟨g, hg⟩ := h
    rfl
  obtain ⟨hv, ho⟩ := h.modifier hk o s.a
  rw [accOp_eq, accOp_eq, ha, hv]
  exact (ho.operation hk .lda _).setCycles 2

theorem AgreesBut.move (hk : k ≠ .C) (m : Move) : AgreesBut k (m.run s) (m.run u) := by
  obtain ⟨g, hg⟩ := id h
  cases m with
  | txa | tya => exact h.operation hk .lda _
  | tax | tsx | inx | dex => exact h.operation hk .ldx _
  | tay | iny | dey => exact h.operation hk .ldy _
  | txs => exact h.setSp s.x

theorem AgreesBut.branchOp (cond : Bool) (off : Byte) : AgreesBut k (branchOp cond off s) (branchOp cond off u) := by
  obtain ⟨g, hg⟩ := h
  cases cond <;> exact .intro g hg

/-- No branch tests D or I. -/
theorem AgreesBut.taken (hk : k = .D ∨ k = .I) (b : Branch) : b.taken u = b.taken s := by
  have hflag {j : Flag} (hj : j ≠ k) : flag j u = flag j s := by
    obtain ⟨g, hg⟩ := h
    exact hg j hj
  have hN := hflag (j := .N)
  have hV := hflag (j := .V)
  have hC := hflag (j := .C)
  have hZ := hflag (j := .Z)
  obtain rfl | rfl := hk <;> cases b <;> simp_all [Branch.taken]

end AgreesBut

/-- Every instruction but PHP does the same whatever flag `k` holds, `k` being no flag that a rule reads. -/
theorem agreesBut_run {k : Flag} (hk : k = .D ∨ k = .I) {s u : State} (h : AgreesBut k s u) {sh : Shape}
    (hphp : sh ≠ .php) : AgreesBut k (sh.run s) (sh.run u) := by
  have hC : k ≠ .C := by rintro rfl; simp at hk
  obtain ⟨g, hg⟩ := id h
  cases sh with
  | imm o m => exact (h.operation hC o m).setCycles 2
  | read o e => exact (h.operation hC o (memRead s (e.resolve s).ea)).setCycles _
  | store r e => exact (h.memWrite (e.resolve s).ea (r.source s)).setCycles _
  | modify o e => exact h.rmwOp hC (e.resolve s) e.modifyTicks o fun v _ _ h => h.setNZ v
  | acc o => exact h.accOp hC o.modifier
  | combine c e => exact h.rmwOp hC (e.resolve s) e.modifyTicks c.first fun v _ _ h => h.operation hC c.second v
  | move m => exact (h.move hC m).setCycles 2
  | branch b off =>
    show AgreesBut k (branchOp (b.taken s) off s) (branchOp (b.taken (setF g s)) off (setF g s))
    rw [h.taken hk]
    exact h.branchOp _ off
  | flag o => exact (h.setFlag _ _).setCycles 2
  | nop => exact h.setCycles 2
  | brk => exact (h.setFlag _ _).setCycles 7
  | jmp w => exact (h.setPc w).setCycles 3
  | jmpInd w => exact (h.setPc _).setCycles 5
  | jsr w => exact (((h.push _).push _).setPc w).setCycles 6
  | rts => exact ((h.setSp _).setPc _).setCycles 6
  | rti => exact ((((h.setSp _).setF_pulledFlags _).setSp _).setPc _).setCycles 6
  | pha => exact (h.push _).setCycles 3
  | php => exact absurd rfl hphp
  | pla => exact ((h.setSp _).operation hC .lda _).setCycles 4
  | plp => exact ((h.setSp _).setF_pulledFlags _).setCycles 4

theorem shapeOf_eq_php_iff (i : Instr) : shapeOf i = .php ↔ i = .php := by cases i <;> simp [shapeOf]

/-- Settles O44: run from two states that agree but for the flag, the instruction leaves two such states. -/
theorem decimalAndInterruptFlagsAreOnlyStored : Obligations.DecimalAndInterruptFlagsAreOnlyStored := by
  intro i k b s t hphp hk ht
  obtain rfl : (shapeOf i).run s = t := by simpa [exec_eq_run] using ht
  refine ⟨_, exec_eq_run i (setFlag k b s), (agreesBut_run hk (agreesBut_setFlag k b s) ?_).sameBut⟩
  exact fun h => hphp ((shapeOf_eq_php_iff i).mp h)

end Sys2Proof.Proofs

/-! ## The tick (10_state.md R31, 60_exceptions.md section 1) -/

namespace Sys2Proof.Proofs

open Sys2Proof.Machine Sys2Proof.Claims

/-! ### Dispatch -/

theorem memRead_setPc (s : State) (pc addr : Word) : memRead (setPc pc s) addr = memRead s addr := rfl

/-- Fetching the operand bytes moves PC past them and changes nothing else. -/
theorem fetchOperands_snd (t : Slot) (s : State) :
    (fetchOperands t.form s).2 = setPc (s.pc + BitVec.ofNat 16 t.operandBytes) s := by
  unfold Slot.operandBytes
  cases t.form with
  | op i => show s = setPc (s.pc + 0#16) s; rw [BitVec.add_zero]; rfl
  | opByte make => rfl
  | opWord make => show setPc (s.pc + 1#16 + 1#16) s = setPc (s.pc + 2#16) s; rw [BitVec.add_assoc]; rfl

theorem pc_add_succ (pc : Word) (n : Nat) : pc + 1#16 + BitVec.ofNat 16 n = pc + BitVec.ofNat 16 (n + 1) := by
  rw [BitVec.add_assoc, Nat.add_comm n 1, BitVec.ofNat_add]

theorem dispatchTick_of_none {s : State} (h : dispatch (memRead s s.pc) = none) (policy : IllegalPolicy) :
    dispatchTick policy s = .next (unsetSlot policy s.pc (memRead s s.pc) (setPc (s.pc + 1#16) s)) := by
  simp [dispatchTick, h]

theorem dispatchTick_of_some {s : State} {t : Slot} (h : dispatch (memRead s s.pc) = some t) (policy : IllegalPolicy) :
    dispatchTick policy s = exec (fetchOperands t.form (setPc (s.pc + 1#16) s)).1
      (setPc (s.pc + BitVec.ofNat 16 (t.operandBytes + 1)) s) := by
  simp only [dispatchTick, fetchByte_fst, h, fetchByte_snd, fetchOperands_snd, setPc_pc, pc_add_succ]
  rfl

theorem tick_of_ready {s : State} (h : Ready s) (policy : IllegalPolicy) : tick policy s = dispatchTick policy s := by
  obtain ⟨hf, hr, hb⟩ := h
  simp [tick, hf, hr, hb]

theorem tick_of_faulted {s : State} (h : Faulted s) (policy : IllegalPolicy) : tick policy s = .next s := by
  simp [tick, Option.isSome_iff_ne_none.mpr h]

theorem tick_of_waiting {s : State} (hf : s.faultState = none) (hr : 0 < s.remaining) (policy : IllegalPolicy) :
    tick policy s = .next { s with remaining := s.remaining - 1 } := by
  simp [tick, hf, hr]

theorem tick_of_halted {s : State} (h : Halted s) (policy : IllegalPolicy) : tick policy s = .next s := by
  obtain ⟨hf, hr, hb⟩ := h
  simp [tick, hf, hr, hb]

/-- What a tick of a ready core can do: the unset slot's policy, or the run of an instruction with PC moved on. -/
theorem dispatchTick_cases (policy : IllegalPolicy) (s : State) :
    dispatchTick policy s = .next (unsetSlot policy s.pc (memRead s s.pc) (setPc (s.pc + 1#16) s)) ∨
    ∃ i pc, dispatchTick policy s = .next ((shapeOf i).run (setPc pc s)) := by
  cases h : dispatch (memRead s s.pc) with
  | none => exact .inl (dispatchTick_of_none h policy)
  | some t => exact .inr ⟨_, _, (dispatchTick_of_some h policy).trans (exec_eq_run _ _)⟩

/-- Every tick answers a next state. -/
theorem tick_total (policy : IllegalPolicy) (s : State) : ∃ t, tick policy s = .next t := by
  obtain ⟨-, h⟩ | ⟨-, -, h⟩ | ⟨-, -, -, h⟩ | ⟨-, -, -, h⟩ := tick_cases policy s
  · exact ⟨_, h⟩
  · exact ⟨_, h⟩
  · exact ⟨_, h⟩
  · obtain h' | ⟨i, pc, h'⟩ := dispatchTick_cases policy s <;> exact ⟨_, h.trans h'⟩

/-! ### Invariants of a tick -/

theorem unsetSlot_keeps_coreInv {s : State} (h : CoreInv s) (policy : IllegalPolicy) (addr : Word) (op : Byte) :
    CoreInv (unsetSlot policy addr op s) := by
  obtain ⟨hm, hw, hu, hr⟩ := h
  cases policy with
  | fail => exact ⟨hm, hw, hu, hr⟩
  | nop1 => exact ⟨hm, Nat.zero_le 7, hu, hr⟩

theorem setPc_keeps_coreInv {s : State} (h : CoreInv s) (pc : Word) : CoreInv (setPc pc s) :=
  ⟨h.memory, h.waiting, h.unusedFlag, h.regions⟩

theorem tick_keeps_coreInv {policy : IllegalPolicy} {s t : State} (h : CoreInv s) (ht : tick policy s = .next t) :
    CoreInv t := by
  obtain ⟨-, e⟩ | ⟨-, -, e⟩ | ⟨-, -, -, e⟩ | ⟨-, -, -, e⟩ := tick_cases policy s <;> rw [e] at ht
  · cases ht
    exact h
  · cases ht
    exact ⟨h.memory, Nat.le_trans (Nat.sub_le _ 1) h.waiting, h.unusedFlag, h.regions⟩
  · cases ht
    exact h
  · obtain e' | ⟨i, pc, e'⟩ := dispatchTick_cases policy s <;> rw [e'] at ht <;> cases ht
    · exact unsetSlot_keeps_coreInv (setPc_keeps_coreInv h _) policy _ _
    · exact (shapeOf i).run_keeps_coreInv (setPc_keeps_coreInv h pc)

/-- Settles O3: by what a tick can do, an instruction's run keeping the invariant whatever the instruction. -/
theorem stepKeepsTheCoreInvariant : Obligations.StepKeepsTheCoreInvariant :=
  ⟨fun _ _ => tick_keeps_coreInv, fun _ _ _ => tick_keeps_coreInv⟩

/-- A tick leaves the host's part of the state alone, but for the fault it may raise (10_state.md section 5). -/
theorem tick_keeps_host {policy : IllegalPolicy} {s t : State} (ht : tick policy s = .next t) :
    t.regions = s.regions ∧ t.notes = s.notes ∧ t.frame = s.frame ∧ t.warnings = s.warnings := by
  obtain ⟨-, e⟩ | ⟨-, -, e⟩ | ⟨-, -, -, e⟩ | ⟨-, -, -, e⟩ := tick_cases policy s <;> rw [e] at ht
  · cases ht
    exact ⟨rfl, rfl, rfl, rfl⟩
  · cases ht
    exact ⟨rfl, rfl, rfl, rfl⟩
  · cases ht
    exact ⟨rfl, rfl, rfl, rfl⟩
  · obtain e' | ⟨i, pc, e'⟩ := dispatchTick_cases policy s <;> rw [e'] at ht <;> cases ht
    · cases policy <;> exact ⟨rfl, rfl, rfl, rfl⟩
    · obtain ⟨hr, hn, hf, hw, -⟩ := (updates_run (setPc pc s) (shapeOf i)).host
      exact ⟨hr, hn, hf, hw⟩

/-- Settles O45: an instruction only updates registers and writes through the address space. -/
theorem instructionsLeaveTheHostsStateAlone : Obligations.InstructionsLeaveTheHostsStateAlone := by
  refine ⟨fun i s t ht => ?_, fun s t => tick_keeps_host⟩
  obtain rfl : (shapeOf i).run s = t := by simpa [exec_eq_run] using ht
  exact (updates_run s (shapeOf i)).host

/-! ### Several ticks -/

theorem ticks_succ {s t : State} (h : step s = .next t) (n : Nat) : ticks (n + 1) s = ticks n t := by
  rw [ticks, h]

/-- A state that a step does not change is not changed by any number of them. -/
theorem ticks_of_fixed {s : State} (h : step s = .next s) (n : Nat) : ticks n s = .next s := by
  induction n with
  | zero => rfl
  | succ n ih => rw [ticks_succ h, ih]

/-- A core inside an instruction only counts down. -/
theorem ticks_of_waiting {s : State} (hf : s.faultState = none) {n : Nat} (hn : n ≤ s.remaining) :
    ticks n s = .next { s with remaining := s.remaining - n } := by
  induction n generalizing s with
  | zero => rfl
  | succ n ih =>
    have hn' : n ≤ s.remaining - 1 := Nat.le_sub_of_add_le hn
    rw [ticks_succ (tick_of_waiting hf (by omega) _), ih (s := { s with remaining := s.remaining - 1 }) hf hn']
    simp only [Nat.sub_sub, Nat.add_comm 1 n]

/-- Settles O12: by the tests of the tick rule, and counting down tick by tick. -/
theorem quietTicksChangeNothingElse : Obligations.QuietTicksChangeNothingElse := by
  refine fun s n => ⟨fun h => ticks_of_fixed ?_ n, fun hf hn => ticks_of_waiting hf hn⟩
  obtain h | h := h
  · exact tick_of_faulted h _
  · exact tick_of_halted h _

/-! ### A ready core -/

/-- Settles O8: exactly the listed opcodes have no slot, and a dispatch of one applies the policy. -/
theorem unsetSlotsFollowThePolicy : Obligations.UnsetSlotsFollowThePolicy := by
  refine ⟨fun op rest => (decode_eq_unsetSlot_iff op rest).trans (dispatch_eq_none_iff op), fun s hs hop => ?_⟩
  have hnone := (dispatch_eq_none_iff _).mpr hop
  have hticks (policy) := (tick_of_ready hs policy).trans (dispatchTick_of_none hnone policy)
  refine ⟨hticks .fail, rfl, (hticks .nop1).trans ?_⟩
  obtain ⟨-, hr, -⟩ := hs
  simp [unsetSlot, setPc, hr]

/-- The byte `k` places after PC. -/
def byteAt (s : State) (k : Nat) : Byte := memRead s (s.pc + BitVec.ofNat 16 k)

theorem byteAt_zero (s : State) : byteAt s 0 = memRead s s.pc := congrArg (memRead s) (BitVec.add_zero s.pc)

/-- The instruction that a slot's operand fetch makes of the bytes after PC. -/
def fetched (s : State) (t : Slot) : Instr := (fetchOperands t.form (setPc (s.pc + 1#16) s)).1

/-- The fetched instruction is the one encoded by the bytes at PC (30_encoding.md R73). -/
theorem encode_fetched {s : State} {t : Slot} (h : dispatch (memRead s s.pc) = some t) :
    encode (fetched s t) = (List.range (t.operandBytes + 1)).map (byteAt s) := by
  have henc := formEncodes_of_dispatch h
  rw [← byteAt_zero] at henc
  unfold fetched Slot.operandBytes
  cases hf : t.form with
  | op i =>
    rw [hf] at henc
    exact henc
  | opByte make =>
    rw [hf] at henc
    exact henc _
  | opWord make =>
    rw [hf] at henc
    refine (henc _).trans ?_
    have hpc : s.pc + 1#16 + 1#16 = s.pc + 2#16 := pc_add_succ s.pc 1
    simp [List.range_succ, byteAt, hpc, memRead_setPc]

theorem operandBytes_le (t : Slot) : t.operandBytes ≤ 2 := by unfold Slot.operandBytes; split <;> omega

theorem length_fetched {s : State} {t : Slot} (h : dispatch (memRead s s.pc) = some t) :
    (encode (fetched s t)).length = t.operandBytes + 1 := by
  rw [encode_fetched h, List.length_map, List.length_range]

/-- The three bytes at PC decode to the fetched instruction. -/
theorem decode_bytesAt {s : State} {t : Slot} (h : dispatch (memRead s s.pc) = some t) :
    decode [memRead s s.pc, memRead s (s.pc + 1), memRead s (s.pc + 2)] =
      .ok (fetched s t) (((List.range 3).map (byteAt s)).drop (t.operandBytes + 1)) := by
  have hbytes : [memRead s s.pc, memRead s (s.pc + 1), memRead s (s.pc + 2)] = (List.range 3).map (byteAt s) := by
    rw [← byteAt_zero]
    rfl
  have hlen : min (t.operandBytes + 1) 3 = t.operandBytes + 1 := by
    have := operandBytes_le t
    omega
  rw [hbytes, ← decode_encode, encode_fetched h, ← hlen, ← List.take_range, List.map_take, hlen, List.take_append_drop]

/-- Settles O10: the fetched instruction is the one the bytes at PC decode to. -/
theorem stepRunsTheDecodedInstruction : Obligations.StepRunsTheDecodedInstruction := by
  intro s i rest hs hdec
  obtain ⟨op, bs, t, hbytes, ht, -⟩ := decode_eq_ok hdec
  obtain ⟨rfl, -⟩ := List.cons.inj hbytes
  obtain ⟨rfl, -⟩ := Decoded.ok.inj ((decode_bytesAt ht).symm.trans hdec)
  rw [Instr.length, length_fetched ht]
  exact (tick_of_ready hs _).trans (dispatchTick_of_some ht _)

/-- Settles O11: the tests of the tick rule, and the bytes of the fetched instruction. -/
theorem stepFollowsTheTickRule : Obligations.StepFollowsTheTickRule := by
  intro s
  refine ⟨fun h => tick_of_faulted h _, fun ⟨hf, hr⟩ => tick_of_waiting hf hr _, fun h => tick_of_halted h _,
    fun hs op hop => ⟨fun hnone => ?unset, fun t ht => ?bound⟩⟩ <;> subst hop
  case unset => exact ⟨_, (tick_of_ready hs _).trans (dispatchTick_of_none hnone _), rfl⟩
  case bound =>
    refine ⟨fetched s t, ?opcode, length_fetched ht, fun k b hk => ?bytes, ?run⟩
    case opcode =>
      rw [opcodeOf, encode_fetched ht, List.range_succ_eq_map]
      exact byteAt_zero s
    case bytes =>
      rw [encode_fetched ht, List.getElem?_map, Option.map_eq_some_iff] at hk
      obtain ⟨j, hj, hb⟩ := hk
      obtain ⟨hlt, rfl⟩ := List.getElem?_eq_some_iff.mp hj
      rwa [List.getElem_range] at hb
    case run =>
      have hexec := exec_eq_run (fetched s t) (setPc (s.pc + BitVec.ofNat 16 (t.operandBytes + 1)) s)
      exact ⟨_, (tick_of_ready hs _).trans ((dispatchTick_of_some ht _).trans hexec), hexec⟩

/-- Settles O13: the first tick is the instruction's run, after which the core waits. -/
theorem effectsComeInTheFirstTick : Obligations.EffectsComeInTheFirstTick := by
  intro s i rest hs hdec
  have hstep := stepRunsTheDecodedInstruction s i rest hs hdec
  obtain ⟨t, ht, hcount⟩ := everyInstructionTakesItsTableTicks i { s with pc := s.pc + BitVec.ofNat 16 i.length }
  rw [ht] at hstep
  refine ⟨t, hstep, hcount, fun n hn => ?_⟩
  have hfault : t.faultState = none := by
    obtain ⟨-, -, -, -, hf⟩ := instructionsLeaveTheHostsStateAlone.1 _ _ _ ht
    exact hf.trans hs.1
  rw [ticks_succ hstep, ticks_of_waiting hfault hn]

end Sys2Proof.Proofs

/-! ## Bit test, overflow, flags on the stack (43_alu.md, 42_stack.md, 45_control.md R192) -/

namespace Sys2Proof.Proofs

open Sys2Proof.Machine Sys2Proof.Claims

/-! ### BIT -/

theorem flagsWritten_bitFlags (f a m : Byte) :
    FlagsWritten f (bitFlags f a m) [(.Z, decide (a &&& m = 0)), (.N, m.getLsbD 7), (.V, m.getLsbD 6)] := by
  intro k
  rw [getFlag_bitFlags, beq_eq_decide]
  cases k <;> rfl

theorem operandOp_doBit (s : State) : OperandOp s doBit (fun _ => s)
    fun m => [(.Z, decide (s.a &&& m = 0)), (.N, m.getLsbD 7), (.V, m.getLsbD 6)] :=
  ⟨fun _ => rfl, flagsWritten_bitFlags s.f s.a, fun _ => rfl, fun _ => rfl⟩

/-- Settles O31: both forms test the operand their addressing mode names. -/
theorem bitTestsTheOperand : Obligations.BitTestsTheOperand := fun s =>
  ⟨(operandOp_doBit s).readByteForm fun _ => ⟨rfl, rfl⟩, (operandOp_doBit s).readWordForm fun _ _ => ⟨rfl, rfl⟩⟩

/-! ### PHP, PLP and RTI -/

theorem flagsWritten_pulledFlags (f v : Byte) : FlagsWritten f (pulledFlags f v)
    [(.C, v.getLsbD 0), (.Z, v.getLsbD 1), (.I, v.getLsbD 2), (.D, v.getLsbD 3), (.V, v.getLsbD 6),
     (.N, v.getLsbD 7)] := by
  intro k
  rw [getFlag_pulledFlags]
  cases k <;> rfl

/-- An instruction whose meaning changes registers and F only. -/
theorem completes_of_registers {bytes : List Byte} {i : Instr} {s want : State} {cycles : Nat} {f : Byte}
    {written : List (Flag × Bool)} (hd : decode bytes = .ok i [])
    (he : exec i s = .next { want with f := f, remaining := cycles - 1 }) (hf : FlagsWritten s.f f written)
    (hr : want.regions = s.regions := by rfl) (hm : want.mem = s.mem := by rfl) (hc : 0 < cycles := by decide) :
    Completes bytes i s cycles want written :=
  ⟨hd, _, he, Nat.sub_add_cancel hc, rfl, hf, fun addr => memRead_congr hr (congrArg (Memory.read · addr.toNat) hm)⟩

/-- Settles O26: PHP is a push, PLP a pull into F, RTI that and the pull of PC. -/
theorem flagsGoThroughTheStack : Obligations.FlagsGoThroughTheStack := by
  intro s
  have hsp2 : s.sp + 2 = s.sp + 1 + 1 := (BitVec.add_assoc s.sp 1 1).symm
  have hsp3 : s.sp + 3 = s.sp + 1 + 1 + 1 := by rw [← hsp2]; exact (BitVec.add_assoc s.sp 2 1).symm
  refine ⟨stores_of_push ⟨rfl, rfl⟩, ?plp, ?rti⟩
  case plp => exact completes_of_registers rfl rfl (flagsWritten_pulledFlags s.f _)
  case rti =>
    simp only [hsp2, hsp3]
    exact completes_of_registers rfl rfl (flagsWritten_pulledFlags s.f _)

/-! ### Signed overflow -/

theorem topBit_eq_getLsbD (v : Byte) : v.getLsbD 7 = topBit v :=
  (BitVec.msb_eq_getLsbD_last v).symm.trans (BitVec.msb_eq_decide v)

theorem addResult_toNat (a m : Byte) (c : Bool) : (addResult a m c).toNat = (a.toNat + m.toNat + bit c) % 256 := by
  rw [addResult, BitVec.toNat_ofNat]
  omega

theorem bit_le (c : Bool) : bit c ≤ 1 := by cases c <;> decide

/-- V of the add is signed overflow: operands of one sign give a sum of the other (43_alu.md R140). -/
theorem overflow_iff (a m : Byte) (c : Bool) :
    ((a.getLsbD 7 == m.getLsbD 7) && (a.getLsbD 7 != (addResult a m c).getLsbD 7)) = true ↔
      signed a + signed m + bit c < -128 ∨ 127 < signed a + signed m + bit c := by
  have ha := a.isLt
  have hm := m.isLt
  have hc := bit_le c
  rw [topBit_eq_getLsbD, topBit_eq_getLsbD, topBit_eq_getLsbD]
  simp only [topBit, signed, addResult_toNat, Bool.and_eq_true, beq_iff_eq, bne_iff_ne, ne_eq, decide_eq_decide]
  split <;> split <;> omega

theorem complement_toNat (m : Byte) : (complement m).toNat = 255 - m.toNat := by
  rw [complement, BitVec.toNat_ofNat]
  omega

theorem signed_complement (m : Byte) : signed (complement m) = -1 - signed m := by
  have hm := m.isLt
  simp only [signed, complement_toNat]
  split <;> split <;> omega

theorem doAdc_overflow (m : Byte) (s : State) :
    getFlag (doAdc m s).f .V = true ↔
      signed s.a + signed m + bit (getFlag s.f .C) < -128 ∨ 127 < signed s.a + signed m + bit (getFlag s.f .C) := by
  rw [(operandOp_doAdc s).flags m .V]
  exact overflow_iff s.a m _

theorem doAdc_carry (m : Byte) (s : State) :
    getFlag (doAdc m s).f .C = true ↔ 256 ≤ s.a.toNat + m.toNat + bit (getFlag s.f .C) := by
  rw [(operandOp_doAdc s).flags m .C]
  exact decide_eq_true_iff

theorem doAdc_sum (m : Byte) (s : State) :
    (doAdc m s).a.toNat = (s.a.toNat + m.toNat + bit (getFlag s.f .C)) % 256 := by
  rw [(operandOp_doAdc s).result m]
  exact addResult_toNat s.a m _

/-- Settles O29: the difference is the sum with the complement, which stands for -1 less the operand. -/
theorem overflowIsTwosComplementOverflow : Obligations.OverflowIsTwosComplementOverflow := by
  intro s m
  have hm := m.isLt
  have hc := bit_le (getFlag s.f .C)
  have hsub : doSbc m s = doAdc (complement m) s := by rw [doSbc_eq, complement_eq_not]
  dsimp only
  rw [hsub, doAdc_overflow, doAdc_carry, doAdc_sum, doAdc_overflow, doAdc_carry, doAdc_sum, signed_complement,
    complement_toNat]
  omega

end Sys2Proof.Proofs

/-! ## Shifts, rotates and the combined instructions (44_inc_dec_shift.md section 2, 47_undocumented_rmw.md) -/

namespace Sys2Proof.Proofs

open Sys2Proof.Machine Sys2Proof.Claims

/-! ### The shifted bytes -/

theorem aslByte_eq : ∀ v : Byte, aslByte v = v <<< 1 := by decide

theorem lsrByte_eq : ∀ v : Byte, lsrByte v = v >>> 1 := by decide

theorem rolByte_eq : ∀ (c : Bool) (v : Byte), rolByte v c = v <<< 1 ||| (if c then 0x01#8 else 0x00#8) := by decide

theorem rorByte_eq : ∀ (c : Bool) (v : Byte), rorByte v c = v >>> 1 ||| (if c then 0x80#8 else 0x00#8) := by decide

theorem lowBit_eq_getLsbD : ∀ v : Byte, v.getLsbD 0 = lowBit v := by decide

theorem doAsl_eq (v : Byte) (s : State) : doAsl v s = (aslByte v, setF (putFlag s.f .C (topBit v)) s) := by
  rw [aslByte_eq, ← topBit_eq_getLsbD]
  rfl

theorem doLsr_eq (v : Byte) (s : State) : doLsr v s = (lsrByte v, setF (putFlag s.f .C (lowBit v)) s) := by
  rw [lsrByte_eq, ← lowBit_eq_getLsbD]
  rfl

theorem doRol_eq (v : Byte) (s : State) :
    doRol v s = (rolByte v (getFlag s.f .C), setF (putFlag s.f .C (topBit v)) s) := by
  rw [rolByte_eq, ← topBit_eq_getLsbD]
  rfl

theorem doRor_eq (v : Byte) (s : State) :
    doRor v s = (rorByte v (getFlag s.f .C), setF (putFlag s.f .C (lowBit v)) s) := by
  rw [rorByte_eq, ← lowBit_eq_getLsbD]
  rfl

/-! ### Shifts -/

/-- Flags written after other flags: the later write counts. -/
theorem flagsWritten_trans {f g h : Byte} {first second both : List (Flag × Bool)} (hfirst : FlagsWritten f g first)
    (hsecond : FlagsWritten g h second)
    (hboth : ∀ (k : Flag) (old : Bool), valueIn k (valueIn k old first) second = valueIn k old both) :
    FlagsWritten f h both := fun k => by
  rw [hsecond k, hfirst k, hboth]

/-- `SetNZ` after a write of C (44_inc_dec_shift.md R166 to R170). -/
theorem flagsWritten_shift (f v : Byte) (c : Bool) : FlagsWritten f (withNZ (putFlag f .C c) v) ((.C, c) :: nz v) :=
  flagsWritten_trans (flagsWritten_putFlag f .C c) (flagsWritten_withNZ _ v) fun k _ => by cases k <;> rfl

theorem modifyOp_of_shift {s : State} {f : Byte → State → Byte × State} {res : Byte → Byte} {out : Byte → Bool}
    (h : ∀ m, f m s = (res m, setF (putFlag s.f .C (out m)) s)) :
    ModifyOp s f res (fun m => putFlag s.f .C (out m)) fun m => (.C, out m) :: nz (res m) :=
  ⟨h, fun m => flagsWritten_shift s.f (res m) (out m)⟩

/-- The accumulator form modifies A instead of a byte of memory (44_inc_dec_shift.md R167). -/
theorem ModifyOp.accForm {s : State} {f : Byte → State → Byte × State} {res fl : Byte → Byte}
    {written : Byte → List (Flag × Bool)} (hop : ModifyOp s f res fl written) {op : Byte} {i : Instr}
    (hi : decode [op] = .ok i [] ∧ exec i s = .next (accOp f s)) :
    Completes [op] i s 2 { s with a := res s.a } (written s.a) := by
  obtain ⟨hd, he⟩ := hi
  refine completes_of_registers hd (he.trans ?_) (hop.flags s.a)
  rw [accOp_eq, hop.result]
  rfl

/-- Settles O34: each shift modifies A or the byte at the address its addressing mode names. -/
theorem shiftsMoveOneBit : Obligations.ShiftsMoveOneBit := by
  intro s
  have asl := modifyOp_of_shift fun m => doAsl_eq m s
  have lsr := modifyOp_of_shift fun m => doLsr_eq m s
  have rol := modifyOp_of_shift fun m => doRol_eq m s
  have ror := modifyOp_of_shift fun m => doRor_eq m s
  exact ⟨⟨asl.accForm ⟨rfl, rfl⟩, asl.fourForms⟩, ⟨lsr.accForm ⟨rfl, rfl⟩, lsr.fourForms⟩,
    ⟨rol.accForm ⟨rfl, rfl⟩, rol.fourForms⟩, ⟨ror.accForm ⟨rfl, rfl⟩, ror.fourForms⟩⟩

/-! ### The combined instructions -/

/-- From `s`, the first step `f` turns the operand `m` into `res m` and leaves `fl m` in F; the second step `g`, given
that byte, then updates registers as `registers m` and completes the flags `written m` (47_undocumented_rmw.md R210). -/
structure CombinedOp (s : State) (f : Byte → State → Byte × State) (g : Byte → State → State) (res fl : Byte → Byte)
    (registers : Byte → State → State) (written : Byte → List (Flag × Bool)) : Prop where
  first : ∀ m, f m s = (res m, setF (fl m) s)
  second : ∀ m u, u.a = s.a →
    g (res m) (setF (fl m) u) = { registers m u with f := (g (res m) (setF (fl m) u)).f }
  flags : ∀ m u, u.a = s.a → FlagsWritten s.f (g (res m) (setF (fl m) u)).f (written m)
  regions : ∀ m u, (registers m u).regions = u.regions
  memory : ∀ m u, (registers m u).mem = u.mem

/-- The bytes decode to `i`, whose meaning is the two steps at the byte at `ea`. -/
def Combines (s : State) (f : Byte → State → Byte × State) (g : Byte → State → State) (bytes : List Byte) (i : Instr)
    (ea : Word) (cycles : Nat) : Prop :=
  decode bytes = .ok i [] ∧ exec i s = .next (rmwOp (plainEa ea) cycles f g s)

section Forms

variable {s : State} {f : Byte → State → Byte × State} {g : Byte → State → State} {res fl : Byte → Byte}
  {registers : Byte → State → State} {written : Byte → List (Flag × Bool)}

theorem CombinedOp.stores (hop : CombinedOp s f g res fl registers written) {bytes : List Byte} {i : Instr} {ea : Word}
    {cycles : Nat} (hi : Combines s f g bytes i ea cycles) (hc : 0 < cycles := by decide) :
    Stores bytes i s cycles ea (res (memRead s ea)) (registers (memRead s ea)) (written (memRead s ea)) := by
  obtain ⟨hd, he⟩ := hi
  have ha : (memWrite ea (res (memRead s ea)) s).a = s.a := by simp
  refine stores_of_exec hd (he.trans ?_) hc (hop.flags _ _ ha) (hop.regions _ _) (hop.memory _ _)
  rw [rmwOp_eq, hop.first, memWrite_setF]
  exact congrArg (fun t : State => (.next { t with remaining := cycles - 1 } : Result)) (hop.second _ _ ha)

/-- The seven forms of a combined instruction; that each form decodes and runs the steps is left to computation. -/
theorem CombinedOp.sevenForms (hop : CombinedOp s f g res fl registers written) {zp zpx : ByteForm}
    {abs absx absy : WordForm} {indx indy : ByteForm}
    (hi : SevenForms s zp zpx abs absx absy indx indy (Combines s f g) := by
      exact ⟨⟨fun _ => ⟨rfl, rfl⟩, fun _ => ⟨rfl, rfl⟩, fun _ _ => ⟨rfl, rfl⟩, fun _ _ => ⟨rfl, rfl⟩⟩,
        fun _ _ => ⟨rfl, rfl⟩, fun _ => ⟨rfl, rfl⟩, fun _ => ⟨rfl, rfl⟩⟩) :
    SevenForms s zp zpx abs absx absy indx indy fun bytes i ea cycles =>
      Stores bytes i s cycles ea (res (memRead s ea)) (registers (memRead s ea)) (written (memRead s ea)) := by
  obtain ⟨⟨hzp, hzpx, habs, habsx⟩, habsy, hindx, hindy⟩ := hi
  exact ⟨⟨fun n => hop.stores (hzp n), fun n => hop.stores (hzpx n), fun l h => hop.stores (habs l h),
    fun l h => hop.stores (habsx l h)⟩, fun l h => hop.stores (habsy l h), fun n => hop.stores (hindx n),
    fun n => hop.stores (hindy n)⟩

end Forms

/-- SLO, RLA and SRE: a shift, then the load of A with its combination with the shifted byte. -/
theorem combinedOp_load {s : State} {f : Byte → State → Byte × State} {g : Byte → State → State} {res : Byte → Byte}
    {out : Byte → Bool} (op : Byte → Byte → Byte) (hf : ∀ m, f m s = (res m, setF (putFlag s.f .C (out m)) s))
    (hg : ∀ m u, g m u = loadA (op u.a m) u) :
    CombinedOp s f g res (fun m => putFlag s.f .C (out m)) (fun m u => { u with a := op s.a (res m) })
      fun m => (.C, out m) :: nz (op s.a (res m)) where
  first := hf
  second m u ha := by rw [← ha, hg]; rfl
  flags m u ha := by rw [← ha, hg]; exact flagsWritten_shift s.f _ (out m)
  regions _ _ := rfl
  memory _ _ := rfl

theorem combinedOp_rra (s : State) :
    CombinedOp s doRor doAdc (rorByte · (getFlag s.f .C)) (fun m => putFlag s.f .C (lowBit m))
      (fun m u => { u with a := addResult s.a (rorByte m (getFlag s.f .C)) (lowBit m) })
      fun m => addFlags s.a (rorByte m (getFlag s.f .C)) (lowBit m) where
  first m := doRor_eq m s
  second m u ha := by
    have h := (operandOp_doAdc (setF (putFlag s.f .C (lowBit m)) u)).result (rorByte m (getFlag s.f .C))
    simpa [ha] using h
  flags m u ha := by
    have h := (operandOp_doAdc (setF (putFlag s.f .C (lowBit m)) u)).flags (rorByte m (getFlag s.f .C))
    simp only [setF_a, setF_f, ha, getFlag_putFlag, if_true] at h
    exact flagsWritten_trans (flagsWritten_putFlag s.f .C (lowBit m)) h fun k _ => by cases k <;> rfl
  regions _ _ := rfl
  memory _ _ := rfl

theorem combinedOp_dcp (s : State) :
    CombinedOp s doDec compareA decByte (fun _ => s.f) (fun _ => id) fun m => cmpFlags s.a (decByte m) where
  first m := (modifyOp_doDec s).result m
  second _ _ _ := rfl
  flags m u ha := ha ▸ flagsWritten_compareFlags s.f u.a (decByte m)
  regions _ _ := rfl
  memory _ _ := rfl

theorem combinedOp_isc (s : State) :
    CombinedOp s doInc doSbc incByte (fun _ => s.f)
      (fun m u => { u with a := addResult s.a (complement (incByte m)) (getFlag s.f .C) })
      fun m => addFlags s.a (complement (incByte m)) (getFlag s.f .C) where
  first m := (modifyOp_doInc s).result m
  second m u ha := by simpa [ha] using (operandOp_doSbc (setF s.f u)).result (incByte m)
  flags m u ha := by simpa [ha] using (operandOp_doSbc (setF s.f u)).flags (incByte m)
  regions _ _ := rfl
  memory _ _ := rfl

/-- Settles O39: each form does the two steps at the address its addressing mode names. -/
theorem combinedInstructionsWriteBackThenAct : Obligations.CombinedInstructionsWriteBackThenAct := fun s =>
  ⟨(combinedOp_load (· ||| ·) (fun m => doAsl_eq m s) fun _ _ => rfl).sevenForms,
    (combinedOp_load (· &&& ·) (fun m => doRol_eq m s) fun _ _ => rfl).sevenForms,
    (combinedOp_load (· ^^^ ·) (fun m => doLsr_eq m s) fun _ _ => rfl).sevenForms,
    (combinedOp_rra s).sevenForms, (combinedOp_dcp s).sevenForms, (combinedOp_isc s).sevenForms⟩

end Sys2Proof.Proofs

/-! ## Instructions one after the other (47_undocumented_rmw.md, 44_inc_dec_shift.md section 2) -/

namespace Sys2Proof.Proofs

open Sys2Proof.Machine Sys2Proof.Claims

/-! ### A combined instruction and its two steps -/

theorem withNZ_withNZ (f u v : Byte) : withNZ (withNZ f u) v = withNZ f v :=
  flags_ext fun k => by cases k <;> simp

theorem adcFlags_withNZ (f u a m : Byte) : adcFlags (withNZ f u) a m = adcFlags f a m :=
  flags_ext fun k => by cases k <;> simp

theorem compareFlags_withNZ (f u r m : Byte) : compareFlags (withNZ f u) r m = compareFlags f r m :=
  flags_ext fun k => by cases k <;> simp

/-- A second step writes N and Z whatever the first step left in them, and does not look at the tick count. -/
theorem Combined.second_after_first (c : Combined) (m v : Byte) (n : Nat) (s : State) :
    c.second.run m (setCycles n (setNZ v s)) = setCycles n (c.second.run m s) := by
  cases c <;> simp [Combined.second, Operation.run, doOra, doAnd, doEor, doAdc, doSbc, compareA, doCompare, loadA, flag,
    setCycles, setNZ, setF, setA, withNZ_withNZ, adcFlags_withNZ, compareFlags_withNZ]

theorem Modifier.run_snd (o : Modifier) (m : Byte) (s : State) : ∃ f, (o.run m s).2 = setF f s := by
  cases o <;> exact ⟨_, rfl⟩

/-- In RAM the second instruction reads the byte that the first one stored. -/
theorem memRead_after_modify {e : Ea} {s : State} (o : Modifier) (hm : Memory.wf s.mem)
    (hram : inRam s (e.resolve s).ea = true) :
    memRead ((Shape.modify o e).run s) (e.resolve s).ea = (o.run (memRead s (e.resolve s).ea) s).1 := by
  show memRead (memWrite _ _ (o.run _ s).2) _ = _
  obtain ⟨f, hf⟩ := o.run_snd (memRead s (e.resolve s).ea) s
  rw [hf, memWrite_setF]
  exact memRead_memWrite_same hm hram

/-- The three instructions are the combined one and its two steps, at the same operand. -/
def AreSteps (c : Combined) (e : Ea) (i j k : Instr) : Prop :=
  shapeOf i = .combine c e ∧ shapeOf j = .modify c.first e ∧ shapeOf k = .read c.second e

/-- The first step keeps X, so the second one finds the operand where the first one did. -/
theorem AreSteps.composes {i j k : Instr} {c : Combined} {e : Ea} (h : AreSteps c e i j k) {s : State}
    (hm : Memory.wf s.mem) (hram : inRam s (e.resolve s).ea = true)
    (he : ∀ u : State, u.x = s.x → e.resolve u = e.resolve s) : Composes i j k s := by
  obtain ⟨hi, hj, hk⟩ := h
  refine ⟨_, _, _, exec_eq_run i s, exec_eq_run j s, exec_eq_run k _, ?_⟩
  rw [hi, hj, hk]
  have hx : ((Shape.modify c.first e).run s).x = s.x :=
    Shape.register_kept (sh := .modify c.first e) (r := .x) List.not_mem_nil s
  have hsecond : (Shape.read c.second e).run ((Shape.modify c.first e).run s) =
      setCycles (e.readTicks + (e.resolve s).penalty) ((Shape.combine c e).run s) := by
    show setCycles (_ + (e.resolve _).penalty) (c.second.run (memRead _ (e.resolve _).ea) _) = _
    rw [he _ hx, memRead_after_modify c.first hm hram]
    exact congrArg (setCycles _) (c.second_after_first _ _ _ _)
  rw [hsecond]
  rfl

/-- The four forms that the three instructions share; that each is of the combined operation is left to computation. -/
theorem composesInRam (c : Combined) {is js ks : (Byte → Instr) × (Byte → Instr) × (Word → Instr) × (Word → Instr)}
    (hzp : ∀ n, AreSteps c (.zp n) (is.1 n) (js.1 n) (ks.1 n) := by exact fun _ => ⟨rfl, rfl, rfl⟩)
    (hzpx : ∀ n, AreSteps c (.zpx n) (is.2.1 n) (js.2.1 n) (ks.2.1 n) := by exact fun _ => ⟨rfl, rfl, rfl⟩)
    (habs : ∀ w, AreSteps c (.abs w) (is.2.2.1 w) (js.2.2.1 w) (ks.2.2.1 w) := by exact fun _ => ⟨rfl, rfl, rfl⟩)
    (habsx : ∀ w, AreSteps c (.absx w) (is.2.2.2 w) (js.2.2.2 w) (ks.2.2.2 w) := by exact fun _ => ⟨rfl, rfl, rfl⟩) :
    ComposesInRam is js ks := by
  intro s hm
  refine ⟨fun n h => (hzp n).composes hm h fun _ _ => rfl, fun n h => (hzpx n).composes hm h fun u hx => ?zpx,
    fun w h => (habs w).composes hm h fun _ _ => rfl, fun w h => (habsx w).composes hm h fun u hx => ?absx⟩
  case zpx => simp only [Ea.resolve, eaZpx, hx]
  case absx => simp only [Ea.resolve, eaAbsx, hx]

/-- Settles O40: the second step reads what the first one stored and writes N and Z anew. -/
theorem combinedInstructionsAreCompositions : Obligations.CombinedInstructionsAreCompositions :=
  ⟨composesInRam .slo, composesInRam .rla, composesInRam .sre, composesInRam .rra, composesInRam .dcp,
    composesInRam .isc⟩

/-! ### Nine rotations -/

/-- The rotations of the nine bits of A and C. -/
def rotateLeft (p : Byte × Bool) : Byte × Bool := (rolByte p.1 p.2, topBit p.1)
def rotateRight (p : Byte × Bool) : Byte × Bool := (rorByte p.1 p.2, lowBit p.1)

theorem rotateLeft_nine : ∀ (a : Byte) (c : Bool), rotateLeft^[9] (a, c) = (a, c) := by decide
theorem rotateRight_nine : ∀ (a : Byte) (c : Bool), rotateRight^[9] (a, c) = (a, c) := by decide

/-- The bits that a rotation of A turns. -/
def accAndCarry (s : State) : Byte × Bool := (s.a, getFlag s.f .C)

theorem accAndCarry_rol (s : State) : accAndCarry ((Shape.acc .rol).run s) = rotateLeft (accAndCarry s) := by
  show accAndCarry (accOp doRol s) = _
  rw [accOp_eq, doRol_eq]
  simp [accAndCarry, rotateLeft, loadA]

theorem accAndCarry_ror (s : State) : accAndCarry ((Shape.acc .ror).run s) = rotateRight (accAndCarry s) := by
  show accAndCarry (accOp doRor s) = _
  rw [accOp_eq, doRor_eq]
  simp [accAndCarry, rotateRight, loadA]

/-- An instruction run several times. -/
theorem foldl_exec_replicate {f : Result → Instr → Result} (hf : ∀ i s, f (.next s) i = exec i s) (i : Instr) (n : Nat)
    (s : State) : (List.replicate n i).foldl f (.next s) = .next ((fun t => (shapeOf i).run t)^[n] s) := by
  induction n generalizing s with
  | zero => rfl
  | succ n ih => rw [List.replicate_succ, List.foldl_cons, hf, exec_eq_run, ih, Function.iterate_succ_apply]

/-- Settles O42: nine rotations of the nine bits are none. -/
theorem nineRotationsRestoreTheByte : Obligations.NineRotationsRestoreTheByte := by
  intro s
  dsimp only
  intro i hi
  have hbits : accAndCarry ((fun t => (shapeOf i).run t)^[9] s) = accAndCarry s := by
    obtain rfl | rfl := hi
    · exact ((Function.Semiconj.iterate_right (f := accAndCarry) accAndCarry_rol 9) s).trans (rotateLeft_nine s.a _)
    · exact ((Function.Semiconj.iterate_right (f := accAndCarry) accAndCarry_ror 9) s).trans (rotateRight_nine s.a _)
  exact ⟨_, foldl_exec_replicate (fun _ _ => rfl) i 9 s, congrArg Prod.fst hbits, congrArg Prod.snd hbits⟩

end Sys2Proof.Proofs

/-! ## Control transfer (45_control.md, 70_reset_and_hazards.md R293 to R295) -/

namespace Sys2Proof.Proofs

open Sys2Proof.Machine Sys2Proof.Claims

/-! ### A word on the stack -/

/-- RAM and latches after a word was pushed, high byte first (45_control.md R181). -/
def storeWord (w : Word) (sp : Byte) (s : State) : State :=
  memWrite (stackAddr (sp - 1)) (lo w) (memWrite (stackAddr sp) (hi w) s)

/-- A write after A changed is A changed after the write. -/
theorem memWrite_setA (addr : Word) (v a : Byte) (s : State) :
    memWrite addr v (setA a s) = setA a (memWrite addr v s) := by
  have h := memWrite_registers addr v s a s.x s.y s.sp s.f s.pc s.remaining
  simpa [setA] using h

theorem push_push (w : Word) (s : State) :
    push (lo w) (push (hi w) s) = setSp (s.sp - 2) (storeWord w s.sp s) := by
  have hsp : s.sp - 1#8 - 1#8 = s.sp - 2 := by rw [BitVec.sub_sub]; rfl
  rw [push, push_sp, hsp, push, memWrite_setSp]
  rfl

theorem stackAddr_ne_pred (sp : Byte) : stackAddr sp ≠ stackAddr (sp - 1) := fun h => by
  have := stackAddr_injective h
  bv_omega

theorem memRead_storeWord_other {w : Word} {sp : Byte} {s : State} {addr : Word} (h : addr ≠ stackAddr sp)
    (h' : addr ≠ stackAddr (sp - 1)) : memRead (storeWord w sp s) addr = memRead s addr :=
  (memRead_memWrite_other h').trans (memRead_memWrite_other h)

theorem memRead_storeWord_high {w : Word} {sp : Byte} {s : State} (hm : Memory.wf s.mem)
    (h : inRam s (stackAddr sp) = true) : memRead (storeWord w sp s) (stackAddr sp) = hi w :=
  (memRead_memWrite_other (stackAddr_ne_pred sp)).trans (memRead_memWrite_same hm h)

theorem memRead_storeWord_low {w : Word} {sp : Byte} {s : State} (hm : Memory.wf s.mem)
    (h : inRam s (stackAddr (sp - 1)) = true) : memRead (storeWord w sp s) (stackAddr (sp - 1)) = lo w :=
  memRead_memWrite_same (memWrite_keeps_wf hm) (by simpa using h)

/-- RTS goes one past the word that the stack holds at S plus 1 and S plus 2 (45_control.md R182). -/
theorem run_rts (s : State) : Shape.rts.run s =
    { s with
      sp := s.sp + 2
      pc := wordOf (memRead s (stackAddr (s.sp + 2))) (memRead s (stackAddr (s.sp + 1))) + 1
      remaining := 5 } := by
  have hsp : s.sp + 2 = s.sp + 1 + 1 := (BitVec.add_assoc s.sp 1 1).symm
  rw [hsp]
  rfl

/-- RTS finds the word that was pushed when S was `sp`. -/
theorem rts_of_storeWord {u : State} {w : Word} {sp : Byte} (hsp : u.sp = sp - 2)
    (hhigh : memRead u (stackAddr sp) = hi w) (hlow : memRead u (stackAddr (sp - 1)) = lo w) :
    ∃ v, exec .rts u = .next v ∧ v.pc = w + 1 ∧ v.sp = sp := by
  have h1 : u.sp + 1 = sp - 1 := by rw [hsp]; bv_omega
  have h2 : u.sp + 2 = sp := by rw [hsp]; bv_omega
  refine ⟨_, exec_eq_run .rts u, ?_⟩
  show (Shape.rts.run u).pc = w + 1 ∧ (Shape.rts.run u).sp = sp
  rw [run_rts, h1, h2, hhigh, hlow, wordOf_hi_lo]
  exact ⟨rfl, rfl⟩

/-! ### Jumps and subroutines -/

theorem run_jsr (w : Word) (s : State) : (Shape.jsr w).run s =
    { storeWord (s.pc - 1) s.sp s with sp := s.sp - 2, pc := w, remaining := 5 } := by
  show setCycles 6 (setPc w (push (lo (s.pc - 1#16)) (push (hi (s.pc - 1#16)) s))) = _
  rw [push_push]
  rfl

/-- Settles O35: each target, and for JSR the word it leaves on the stack. -/
theorem jumpsAndSubroutinesMovePc : Obligations.JumpsAndSubroutinesMovePc := by
  intro s l h
  refine ⟨?jmp, ?jmpInd, ⟨rfl, ?jsr⟩, ?rts⟩
  case jmp => exact completes_of_registers rfl rfl (flagsWritten_nil s.f)
  case jmpInd =>
    have hptr : wordOf h (l + 1) = wordOf (hi (wordOf h l)) (lo (wordOf h l) + 1) := by rw [hi_wordOf, lo_wordOf]
    rw [hptr]
    exact completes_of_registers rfl rfl (flagsWritten_nil s.f)
  case jsr =>
    exact ⟨_, (exec_eq_run (.jsr _) s).trans (congrArg _ (run_jsr _ s)), rfl, rfl,
      fun addr => memRead_storeWord_other, memRead_storeWord_high, memRead_storeWord_low⟩
  case rts =>
    have hpc (l h : Byte) : BitVec.ofNat 16 (l.toNat + 256 * h.toNat + 1) = wordOf h l + 1 := by
      rw [← wordOf_toNat, BitVec.ofNat_add, BitVec.ofNat_toNat, BitVec.setWidth_eq]
      rfl
    rw [hpc]
    exact completes_of_registers rfl ((exec_eq_run .rts s).trans (congrArg _ (run_rts s))) (flagsWritten_nil s.f)

/-- Settles O41: RTS pulls the word that JSR pushed, the address before the next instruction. -/
theorem returnGoesToTheInstructionAfterTheCall : Obligations.ReturnGoesToTheInstructionAfterTheCall := by
  intro s w hm hhigh hlow
  refine ⟨_, (exec_eq_run (.jsr w) s).trans (congrArg _ (run_jsr w s)), fun u hsp _ huhigh hulow => ?_⟩
  have hpc : s.pc = s.pc - 1 + 1 := (BitVec.sub_add_cancel s.pc 1).symm
  rw [hpc]
  exact rts_of_storeWord hsp (huhigh.trans (memRead_storeWord_high hm hhigh))
    (hulow.trans (memRead_storeWord_low hm hlow))

/-- The word that a call leaves on the stack (70_reset_and_hazards.md R293). -/
theorem storeWord_retAddr (sp : Byte) (s : State) : storeWord (Config.retAddr - 1) sp s =
    memWrite (stackAddr (sp - 1)) 0xFF (memWrite (stackAddr sp) 0xFF s) := rfl

/-- A call pushes the word before the return address, sets A if it is given one, and clears B. -/
theorem call_eq (addr : Word) (a : Option Byte) (s : State) : call addr a s =
    { storeWord (Config.retAddr - 1) s.sp s with
      a := a.getD s.a, sp := s.sp - 2, pc := addr, f := putFlag s.f .B false } := by
  cases a with
  | none =>
    show setFlag .B false (setPc addr (push _ (push _ s))) = _
    rw [push_push]
    simp [setFlag, setPc, setSp, storeWord]
  | some v =>
    show setFlag .B false (setPc addr (push _ (push _ (setA v s)))) = _
    rw [push_push]
    simp [setFlag, setPc, setSp, storeWord, memWrite_setA]

/-- Settles O58: the call pushes the address before the return address, and RTS pulls it. -/
theorem calledRoutineReturnsToTheReturnAddress : Obligations.CalledRoutineReturnsToTheReturnAddress := by
  intro s addr a
  have h := call_eq addr a s
  dsimp only
  generalize call addr a s = t at h ⊢
  refine ⟨?state, ?flags, fun hm hhigh hlow => ?ret⟩
  case flags => rw [h]; exact flagsWritten_putFlag s.f .B false
  case state => rw [h, storeWord_retAddr]
  case ret =>
    have hh : memRead t (stackAddr s.sp) = hi (Config.retAddr - 1) := by
      rw [h]
      exact memRead_storeWord_high hm hhigh
    have hl : memRead t (stackAddr (s.sp - 1)) = lo (Config.retAddr - 1) := by
      rw [h]
      exact memRead_storeWord_low hm hlow
    obtain ⟨u, hu, hpc, hsp⟩ := rts_of_storeWord (by rw [h]) hh hl
    exact ⟨u, hu, hpc.trans (BitVec.sub_add_cancel _ _), hsp⟩

/-! ### Branches -/

theorem branchOp_true (off : Byte) (s : State) : branchOp true off s =
    { s with
      pc := branchTarget s.pc off
      remaining := (if (branchTarget s.pc off).toNat / 256 = s.pc.toNat / 256 then 3 else 4) - 1 } := by
  simp only [branchTarget_eq, ← hi_eq_iff, branchOp, if_true, ne_eq, ite_not]
  rfl

/-- A branch whose condition is that flag `k` has the value `v` (45_control.md R183). -/
theorem branches_of_branchOp {op : Byte} {i : Byte → Instr} {k : Flag} {v : Bool} {cond : State → Bool}
    (h : ∀ off s, decode [op, off] = .ok (i off) [] ∧ exec (i off) s = .next (branchOp (cond s) off s))
    (hcond : ∀ s, cond s = true ↔ getFlag s.f k = v) : Branches op i k v := by
  intro s off
  obtain ⟨hd, he⟩ := h off s
  refine ⟨fun hk => ?untaken, fun hk => ?taken⟩
  case untaken =>
    rw [Bool.eq_false_of_not_eq_true (mt (hcond s).mp hk)] at he
    exact completes_of_registers hd he (flagsWritten_nil s.f)
  case taken =>
    rw [(hcond s).mpr hk, branchOp_true] at he
    exact completes_of_registers hd he (flagsWritten_nil s.f) (hc := by split <;> decide)

/-- Settles O36: each branch tests its flag. -/
theorem branchesTestTheirFlag : Obligations.BranchesTestTheirFlag := by
  have clear (k : Flag) (s : State) : (!flag k s) = true ↔ getFlag s.f k = false := by simp [flag]
  have set (k : Flag) (s : State) : flag k s = true ↔ getFlag s.f k = true := Iff.rfl
  exact ⟨branches_of_branchOp (fun _ _ => ⟨rfl, rfl⟩) (clear .N), branches_of_branchOp (fun _ _ => ⟨rfl, rfl⟩) (set .N),
    branches_of_branchOp (fun _ _ => ⟨rfl, rfl⟩) (clear .V), branches_of_branchOp (fun _ _ => ⟨rfl, rfl⟩) (set .V),
    branches_of_branchOp (fun _ _ => ⟨rfl, rfl⟩) (clear .C), branches_of_branchOp (fun _ _ => ⟨rfl, rfl⟩) (set .C),
    branches_of_branchOp (fun _ _ => ⟨rfl, rfl⟩) (clear .Z), branches_of_branchOp (fun _ _ => ⟨rfl, rfl⟩) (set .Z)⟩

/-! ### BRK -/

theorem ticks_add {s t : State} {m : Nat} (h : ticks m s = .next t) (n : Nat) : ticks (m + n) s = ticks n t := by
  induction m generalizing s with
  | zero =>
    cases h
    rw [Nat.zero_add]
  | succ m ih =>
    obtain ⟨u, hu⟩ := tick_total Config.illegalPolicy s
    rw [ticks_succ hu] at h
    rw [Nat.add_right_comm, ticks_succ hu, ih h]

theorem dispatch_brk : dispatch 0x00 = some ⟨"BRK", .imp, 7, false, .op .brk⟩ := rfl

/-- Settles O38: the first tick runs BRK, six more count down, and the core is halted. -/
theorem brkHaltsTheCore : Obligations.BrkHaltsTheCore := by
  refine ⟨fun s => completes_of_setF (flagsWritten_putFlag s.f .B true) ⟨rfl, rfl⟩, fun s n hs hop hn => ?_⟩
  have hstep : step s = .next (Shape.brk.run (setPc (s.pc + 1#16) s)) :=
    (tick_of_ready hs _).trans (dispatchTick_of_some (by rw [hop]; exact dispatch_brk) _)
  obtain ⟨hfault, hrem, -⟩ := hs
  have hwait : ticks (1 + 6) s = .next { s with pc := s.pc + 1#16, f := putFlag s.f .B true, remaining := 0 } := by
    rw [Nat.add_comm 1 6, ticks_succ hstep]
    exact ticks_of_waiting (s := Shape.brk.run (setPc (s.pc + 1#16) s)) hfault (Nat.le_refl 6)
  have hhalted : Halted { s with pc := s.pc + 1#16, f := putFlag s.f .B true, remaining := 0 } :=
    ⟨hfault, rfl, by simp [flag]⟩
  obtain ⟨k, rfl⟩ := Nat.exists_eq_add_of_le hn
  refine ⟨_, (ticks_add hwait k).trans (ticks_of_fixed (tick_of_halted hhalted _) k), hhalted, ?_,
    flagsWritten_putFlag s.f .B true⟩
  rw [← hrem]
  rfl

end Sys2Proof.Proofs

/-! ## The voice bank and the tables (50_voice_bank.md, 51_note_reconstructor.md section 4) -/

namespace Sys2Proof.Proofs

open Sys2Proof.Machine Sys2Proof.Claims

/-! ### Latches -/

theorem poke_of_lt {i : Nat} (h : i < 25) (v : Byte) (s : State) : poke i v s = { s with reg := s.reg.set i v h } :=
  dif_pos h

theorem poke_of_not_lt {i : Nat} (h : ¬ i < 25) (v : Byte) (s : State) : poke i v s = s := dif_neg h

theorem poke_keeps (i : Nat) (v : Byte) (s : State) : poke i v s = { s with reg := (poke i v s).reg } := by
  unfold poke; split <;> rfl

/-- A latch after a poke (50_voice_bank.md R220). -/
theorem poke_getElem {i j : Nat} (hj : j < 25) (v : Byte) (s : State) :
    (poke i v s).reg[j] = if j = i then v else s.reg[j] := by
  by_cases h : i < 25
  · simp only [poke_of_lt h, Vector.getElem_set, eq_comm]
  · rw [poke_of_not_lt h, if_neg (by omega)]

theorem highNibble_toNat (b : Byte) : (highNibble b).toNat = b.toNat / 16 := by
  have := b.isLt
  simp [highNibble, Nat.shiftRight_eq_div_pow]
  omega

theorem lowNibble_toNat (b : Byte) : (lowNibble b).toNat = b.toNat % 16 := by simp [lowNibble]

theorem pulseWidth_toNat (s : State) (v : Voice) :
    (pulseWidth s v).toNat = (latch s v 3).toNat % 16 * 256 + (latch s v 2).toNat := by
  have hlow := (latch s v 2).isLt
  rw [pulseWidth, BitVec.toNat_append, BitVec.toNat_setWidth, ← Nat.shiftLeft_add_eq_or_of_lt hlow, Nat.shiftLeft_eq]

/-- Settles O46: what a poke does to the latches, and the bits of each field. -/
theorem latchesHoldWhatWasPoked : Obligations.LatchesHoldWhatWasPoked := by
  intro s v b
  refine ⟨fun i _ j hj => poke_getElem hj b s, fun i hi => poke_of_not_lt (by omega) b s, fun i => poke_keeps i b s,
    fun o => ?latch, ?freq, pulseWidth_toNat s v, ?gate, highNibble_toNat _, highNibble_toNat _, lowNibble_toNat _,
    highNibble_toNat _, lowNibble_toNat _⟩
  case latch => exact Vector.getElem?_eq_getElem _
  case freq => rw [freq, wordOf_toNat, Nat.add_comm]
  case gate =>
    show (latch s v 4).getLsbD 0 = true ↔ _
    rw [lowBit_eq_getLsbD]
    exact decide_eq_true_iff

/-- Settles O47: the store is a poke of the register at the offset. -/
theorem storeToTheSidSinkLatches : Obligations.StoreToTheSidSinkLatches := by
  intro s i hmap hi
  have haddr : (BitVec.ofNat 16 (0xD400 + i)).toNat = 0xD400 + i := by
    rw [BitVec.toNat_ofNat]
    omega
  obtain ⟨hram, hpoke⟩ := defaultMapSplitsTheAddressSpace s (BitVec.ofNat 16 (0xD400 + i)) hmap
  have hout : inRam s (BitVec.ofNat 16 (0xD400 + i)) = false := by
    rw [← Bool.not_eq_true, hram, haddr]
    omega
  refine ⟨setCycles 4 (poke i s.a s), ?exec, poke_mem s s.a i, ?read, fun j hj => poke_getElem hj s.a s⟩
  case exec => rw [← hpoke i s.a haddr hi]; rfl
  case read => exact memRead_of_not_inRam (by simpa [inRam, regionAt] using hout)

/-! ### Tables -/

theorem attackMillis_get : ∀ n : Nibble, attackMillis.get n.toFin =
    [2, 8, 16, 24, 38, 56, 68, 80, 100, 250, 500, 800, 1000, 3000, 5000, 8000].getD n.toNat 0 := by decide

theorem decayReleaseMillis_get : ∀ n : Nibble, decayReleaseMillis.get n.toFin =
    [6, 24, 48, 72, 114, 168, 204, 240, 300, 750, 1500, 2400, 3000, 9000, 15000, 24000].getD n.toNat 0 := by decide

theorem decayReleaseMillis_eq_three_mul : ∀ n : Nibble,
    decayReleaseMillis.get n.toFin = 3 * attackMillis.get n.toFin := by decide

/-- Settles O48: the tables in milliseconds, entry by entry, taken to seconds. -/
theorem envelopeTimesAreTheTables : Obligations.EnvelopeTimesAreTheTables := by
  refine ⟨fun n => congrArg seconds (attackMillis_get n), fun n => congrArg seconds (decayReleaseMillis_get n),
    fun n => ?_⟩
  rw [decayReleaseTime, attackTime, decayReleaseMillis_eq_three_mul, seconds, seconds, Nat.cast_mul, mul_div_assoc]
  rfl

/-- The bits that name a waveform are those with one bit set (51_note_reconstructor.md R246). -/
theorem knownWaveform_isSome : ∀ bits : Nibble,
    (knownWaveform bits).isSome = true ↔ bits ∈ [0b0001#4, 0b0010#4, 0b0100#4, 0b1000#4] := by decide

/-- Settles O50: by whether the bits name a waveform. -/
theorem waveformDecodeWarnsOnUnknownBits : Obligations.WaveformDecodeWarnsOnUnknownBits := by
  refine ⟨by decide, fun v f bits => ?_⟩
  rw [← knownWaveform_isSome]
  unfold waveformOf waveformWarnings
  cases knownWaveform bits <;> simp

end Sys2Proof.Proofs

/-! ## Notes (51_note_reconstructor.md sections 2, 4 and 5) -/

namespace Sys2Proof.Proofs

open Sys2Proof.Machine Sys2Proof.Claims

/-! ### Release and stop -/

theorem elapsed_eq (start f : Nat) : elapsed start f = ((f : ℚ) - start) / 50 := rfl

theorem elapsed_nonneg {start f : Nat} (h : start ≤ f) : 0 ≤ elapsed start f := by
  rw [elapsed_eq]
  have : (start : ℚ) ≤ f := Nat.cast_le.mpr h
  linarith

/-- The three cases of the release transition (51_note_reconstructor.md R248). -/
theorem clipEnvelope_cases (e : ℚ) (o : Note) :
    (e < o.attack ∧ clipEnvelope e o = { o with attack := e, decay := 0, sustainLen := 0 }) ∨
    (o.attack ≤ e ∧ e < o.attack + o.decay ∧ clipEnvelope e o = { o with decay := e - o.attack, sustainLen := 0 }) ∨
    (o.attack ≤ e ∧ o.attack + o.decay ≤ e ∧ clipEnvelope e o = { o with sustainLen := e - o.attack - o.decay }) := by
  unfold clipEnvelope
  obtain h | h := lt_or_ge e o.attack
  · exact .inl ⟨h, if_pos h⟩
  · rw [if_neg (not_lt.mpr h)]
    obtain h' | h' := lt_or_ge e (o.attack + o.decay)
    · exact .inr (.inl ⟨h, h', if_pos h'⟩)
    · exact .inr (.inr ⟨h, h', if_neg (not_lt.mpr h')⟩)

/-- Settles O51: case by case of the elapsed time. -/
theorem releaseClipsTheEnvelope : Obligations.ReleaseClipsTheEnvelope := by
  intro f o hf ha hd
  have he := elapsed_nonneg hf
  rw [elapsed_eq] at he
  dsimp only [releaseNote, elapsed_eq]
  generalize ((f : ℚ) - o.startFrame) / 50 = e at he ⊢
  obtain ⟨h, eq⟩ | ⟨h, h', eq⟩ | ⟨h, h', eq⟩ := clipEnvelope_cases e o <;> rw [eq] <;> dsimp only
  · exact ⟨fun _ => rfl, fun h' => absurd h (not_lt.mpr h'), fun h' => absurd h (by linarith), by linarith, he,
      le_rfl, le_rfl, h.le, hd⟩
  · exact ⟨fun h'' => absurd h'' (not_lt.mpr h), fun _ _ => rfl, fun h'' => absurd h' (not_lt.mpr h''), by linarith, ha,
      by linarith, le_rfl, le_rfl, by linarith⟩
  · exact ⟨fun h'' => absurd h'' (not_lt.mpr h), fun _ h'' => absurd h'' (not_lt.mpr h'), fun _ => rfl, by linarith, ha,
      hd, by linarith, le_rfl, le_rfl⟩

theorem clipRelease_eq (e : ℚ) (o : Note) :
    clipRelease e o = { o with release := min o.release e, status := .stopped } := by
  rw [clipRelease, min_comm, min_def_lt]

theorem stopNote_of_released {o : Note} {rf : Nat} (h : o.status = .released rf) (f : Nat) :
    stopNote f o = clipRelease (elapsed rf f) o := by
  simp only [stopNote, h]

theorem stopNote_of_sounding {o : Note} (h : o.status = .sounding) (f : Nat) :
    stopNote f o = { releaseNote f o with release := 0, status := .stopped } := by
  simp only [stopNote, h]

/-- Settles O52: by the status of the record. -/
theorem stopClipsTheReleaseLength : Obligations.StopClipsTheReleaseLength := by
  refine fun f o => ⟨fun rf h => ?released, fun h => stopNote_of_sounding h f, fun h => ?stopped⟩
  case released => rw [stopNote_of_released h, clipRelease_eq, elapsed_eq]
  case stopped => simp only [stopNote, h]

/-! ### One voice's frame -/

theorem openNote_append_singleton {o : Note} (h : o.status ≠ .stopped) (xs : List Note) :
    openNote (xs ++ [o]) = some o := by
  rw [openNote_eq_some, List.dropLast_concat]
  exact ⟨rfl, h⟩

/-- The note a frame starts: a new record with the fields of the latches (51_note_reconstructor.md R242). -/
def startedNote (s : State) (v : Voice) (p : Int) : Note := refreshNote s v p (newNote s.frame p)

theorem soundingNote_of_closed {ns : List Note} (h : ∀ o, ns.getLast? = some o → o.status = .stopped) (f : Nat)
    (p : Int) : soundingNote f p ns = (ns, newNote f p) := by
  simp only [soundingNote, openNote_eq_none.mpr h]

theorem soundingNote_of_released {o : Note} {rf : Nat} (h : o.status = .released rf) (xs : List Note) (f : Nat)
    (p : Int) : soundingNote f p (xs ++ [o]) = (xs ++ [stopNote f o], newNote f p) := by
  simp [soundingNote, openNote_append_singleton (o := o) (by simp [h]), h]

theorem soundingNote_of_sounding {o : Note} (h : o.status = .sounding) (xs : List Note) (f : Nat) (p : Int) :
    soundingNote f p (xs ++ [o]) = (xs, o) := by
  simp [soundingNote, openNote_append_singleton (o := o) (by simp [h]), h]

theorem releaseOpen_of_sounding {o : Note} (h : o.status = .sounding) (xs : List Note) (f : Nat) :
    releaseOpen f (xs ++ [o]) = xs ++ [releaseNote f o] := by
  simp [releaseOpen, openNote_append_singleton (o := o) (by simp [h]), h]

theorem releaseOpen_of_not_sounding {ns : List Note} (h : ∀ o, ns.getLast? = some o → o.status ≠ .sounding) (f : Nat) :
    releaseOpen f ns = ns := by
  unfold releaseOpen
  cases ho : openNote ns with
  | none => rfl
  | some o =>
    obtain ⟨hns, -⟩ := openNote_eq_some.mp ho
    have hlast : ns.getLast? = some o := by rw [hns]; exact List.getLast?_concat
    simp only [h o hlast, if_false]

theorem finishVoice_of_gated {s : State} {v : Voice} {p : Int} (hg : gate s v = true)
    (hp : pitch Config.clockHz (freq s v).toNat = some p) : finishVoice v s = gatedFrame v p s := by
  simp only [finishVoice, hg, hp, if_true]

theorem finishVoice_of_unpitched {s : State} {v : Voice} (hg : gate s v = true)
    (hp : (freq s v).toNat = 0) : finishVoice v s = s := by
  simp only [finishVoice, hg, (pitch_eq_none _ _).mpr hp, if_true]

theorem finishVoice_of_ungated {s : State} {v : Voice} (hg : gate s v = false) :
    finishVoice v s = setNotes v (releaseOpen s.frame (notesOf s v)) s := by
  simp [finishVoice, hg]

theorem notesOf_gatedFrame (v : Voice) (p : Int) (s : State) : notesOf (gatedFrame v p s) v =
    (soundingNote s.frame p (notesOf s v)).1 ++
      [refreshNote s v p (soundingNote s.frame p (notesOf s v)).2] := notesOf_setNotes_same v _ s

/-- Settles O53: by the gate, the frequency and the status of the last record. -/
theorem frameStepFollowsTheGate : Obligations.FrameStepFollowsTheGate := by
  intro s v before o p
  refine ⟨fun hg hp => ?gated, finishVoice_of_unpitched, fun hg => ?ungated⟩
  case gated =>
    rw [finishVoice_of_gated hg hp, notesOf_gatedFrame]
    refine ⟨rfl, fun hclosed => ?closed, fun rf hns hst => ?released, fun hns hst => ?sounding⟩
    case closed =>
      rw [soundingNote_of_closed hclosed]
      refine ⟨startedNote s v p, ?_, rfl⟩
      simp [startedNote, refreshNote, newNote]
    case released =>
      rw [hns, soundingNote_of_released hst]
      refine ⟨startedNote s v p, ?_, List.append_assoc ..⟩
      simp [startedNote, refreshNote, newNote]
    case sounding =>
      rw [hns, soundingNote_of_sounding hst]
      by_cases hpitch : p = o.curPitch <;> simp [refreshNote, hpitch]
  case ungated =>
    rw [finishVoice_of_ungated hg, notesOf_setNotes_same]
    refine ⟨rfl, fun hns hst => ?_, fun h => releaseOpen_of_not_sounding h s.frame⟩
    rw [hns, releaseOpen_of_sounding hst]

end Sys2Proof.Proofs

/-! ## The end of a frame (51_note_reconstructor.md R240, R242, R252 to R254) -/

namespace Sys2Proof.Proofs

open Sys2Proof.Machine Sys2Proof.Claims

/-! ### The three voices -/

theorem finishVoice_warnings (v : Voice) (s : State) :
    (finishVoice v s).warnings = s.warnings ++ voiceWarnings s v := by
  unfold voiceWarnings
  cases hg : gate s v with
  | false => simp [finishVoice_of_ungated hg, setNotes]
  | true =>
    cases hp : pitch Config.clockHz (freq s v).toNat with
    | none =>
      have h0 := (pitch_eq_none _ _).mp hp
      simp [finishVoice_of_unpitched hg h0, h0]
    | some p =>
      have h0 : (freq s v).toNat ≠ 0 := fun h => by simp [(pitch_eq_none _ _).mpr h] at hp
      simp [finishVoice_of_gated hg hp, gatedFrame, h0]

/-- A voice's step looks at its own list, the latches and the frame clock only. -/
theorem notesOf_finishVoice_congr {s t : State} {v : Voice} (hnotes : notesOf t v = notesOf s v)
    (ht : t = { s with notes := t.notes, warnings := t.warnings }) :
    notesOf (finishVoice v t) v = notesOf (finishVoice v s) v := by
  have hgate : gate t v = gate s v := by rw [ht]; rfl
  have hfreq : freq t v = freq s v := by rw [ht]; rfl
  have hframe : t.frame = s.frame := by rw [ht]
  have hrefresh (p : Int) (o : Note) : refreshNote t v p o = refreshNote s v p o := by rw [ht]; rfl
  cases hg : gate s v with
  | false =>
    rw [finishVoice_of_ungated hg, finishVoice_of_ungated (hgate.trans hg), notesOf_setNotes_same,
      notesOf_setNotes_same, hframe, hnotes]
  | true =>
    cases hp : pitch Config.clockHz (freq s v).toNat with
    | none =>
      have h0 := (pitch_eq_none _ _).mp hp
      rw [finishVoice_of_unpitched hg h0, finishVoice_of_unpitched (hgate.trans hg) (by rw [hfreq, h0]), hnotes]
    | some p =>
      rw [finishVoice_of_gated hg hp, finishVoice_of_gated (hgate.trans hg) (by rw [hfreq, hp]), notesOf_gatedFrame,
        notesOf_gatedFrame, hframe, hnotes, hrefresh]

/-- Settles O54: a voice's step leaves the other voices' lists and all it looks at beside its own list alone. -/
theorem frameEndHandlesVoicesApart : Obligations.FrameEndHandlesVoicesApart := by
  intro s
  have h0 := finishVoice_keeps 0 s
  have h1 := finishVoice_keeps 1 (finishVoice 0 s)
  have h2 := finishVoice_keeps 2 (finishVoice 1 (finishVoice 0 s))
  have h01 : finishVoice 1 (finishVoice 0 s) = { s with
      notes := (finishVoice 1 (finishVoice 0 s)).notes, warnings := (finishVoice 1 (finishVoice 0 s)).warnings } := by
    rw [h1, h0]
  refine ⟨fun v => ?notes, ?warnings, ?rest⟩
  case notes =>
    match v with
    | 0 => exact (notesOf_finishVoice_other (by decide) _).trans (notesOf_finishVoice_other (by decide) _)
    | 1 =>
      exact (notesOf_finishVoice_other (by decide) _).trans
        (notesOf_finishVoice_congr (notesOf_finishVoice_other (by decide) s) h0)
    | 2 =>
      exact notesOf_finishVoice_congr
        ((notesOf_finishVoice_other (by decide) _).trans (notesOf_finishVoice_other (by decide) s)) h01
  case warnings =>
    have w1 : voiceWarnings (finishVoice 0 s) 1 = voiceWarnings s 1 := by rw [h0]; rfl
    have w2 : voiceWarnings (finishVoice 1 (finishVoice 0 s)) 2 = voiceWarnings s 2 := by rw [h01]; rfl
    rw [finishFrame, finishVoice_warnings, finishVoice_warnings, finishVoice_warnings, w1, w2]
  case rest => rw [finishFrame, h2, h01]

/-! ### What a frame does to a list -/

/-- What a voice's step can do to its list: nothing, or one change at its end. -/
inductive FrameStep (s : State) (v : Voice) : List Note → List Note → Prop
  | same (ns : List Note) : FrameStep s v ns ns
  | goOn {o : Note} (h : o.status = .sounding) (xs : List Note) (p : Int) :
    FrameStep s v (xs ++ [o]) (xs ++ [refreshNote s v p o])
  | release {o : Note} (h : o.status = .sounding) (xs : List Note) :
    FrameStep s v (xs ++ [o]) (xs ++ [releaseNote s.frame o])
  | restart {o : Note} {rf : Nat} (h : o.status = .released rf) (xs : List Note) (p : Int) :
    FrameStep s v (xs ++ [o]) (xs ++ [stopNote s.frame o] ++ [startedNote s v p])
  | start {ns : List Note} (h : ∀ o, ns.getLast? = some o → o.status = .stopped) (p : Int) :
    FrameStep s v ns (ns ++ [startedNote s v p])

/-- The list that an open note ends, or a list without one. -/
theorem exists_open_or_closed (ns : List Note) :
    (∃ xs o, ns = xs ++ [o] ∧ (o.status = .sounding ∨ ∃ rf, o.status = .released rf)) ∨
    (∀ o, ns.getLast? = some o → o.status = .stopped) := by
  cases h : openNote ns with
  | none => exact .inr (openNote_eq_none.mp h)
  | some o =>
    obtain ⟨hns, hst⟩ := openNote_eq_some.mp h
    refine .inl ⟨_, o, hns, ?_⟩
    cases hs : o.status with
    | sounding => exact .inl rfl
    | released rf => exact .inr ⟨rf, rfl⟩
    | stopped => exact absurd hs hst

theorem frameStep_finishVoice (s : State) (v : Voice) :
    FrameStep s v (notesOf s v) (notesOf (finishVoice v s) v) := by
  cases hg : gate s v with
  | false =>
    rw [finishVoice_of_ungated hg, notesOf_setNotes_same]
    generalize notesOf s v = ns
    obtain ⟨xs, o, rfl, h | ⟨rf, h⟩⟩ | h := exists_open_or_closed ns
    · rw [releaseOpen_of_sounding h]
      exact .release h xs
    · rw [releaseOpen_of_not_sounding (by simp [h])]
      exact .same _
    · rw [releaseOpen_of_not_sounding fun o ho => by simp [h o ho]]
      exact .same ns
  | true =>
    cases hp : pitch Config.clockHz (freq s v).toNat with
    | none =>
      rw [finishVoice_of_unpitched hg ((pitch_eq_none _ _).mp hp)]
      exact .same _
    | some p =>
      rw [finishVoice_of_gated hg hp, notesOf_gatedFrame]
      generalize notesOf s v = ns
      obtain ⟨xs, o, rfl, h | ⟨rf, h⟩⟩ | h := exists_open_or_closed ns
      · rw [soundingNote_of_sounding h]
        exact .goOn h xs p
      · rw [soundingNote_of_released h]
        exact .restart h xs p
      · rw [soundingNote_of_closed h]
        exact .start h p

/-- A flush stops the open note, if there is one. -/
theorem stopOpen_of_open {o : Note} (h : o.status ≠ .stopped) (xs : List Note) (f : Nat) :
    stopOpen f (xs ++ [o]) = xs ++ [stopNote f o] := by
  simp [stopOpen, openNote_append_singleton h]

theorem stopOpen_of_closed {ns : List Note} (h : ∀ o, ns.getLast? = some o → o.status = .stopped) (f : Nat) :
    stopOpen f ns = ns := by
  simp only [stopOpen, openNote_eq_none.mpr h]

theorem notesOf_flush (s : State) (v : Voice) : notesOf (flush s) v = stopOpen s.frame (notesOf s v) := by
  simp [flush, notesOf]

/-! ### Stopped records stay -/

theorem keepsStopped_refl (ns : List Note) : KeepsStopped ns ns := ⟨Nat.le_refl _, fun _ _ h _ => h⟩

theorem keepsStopped_append (ns zs : List Note) : KeepsStopped (ns ++ zs) ns := by
  refine ⟨by simp, fun k o hk _ => ?_⟩
  obtain ⟨hlt, -⟩ := List.getElem?_eq_some_iff.mp hk
  rw [List.getElem?_append_left hlt, hk]

theorem keepsStopped_trans {x y z : List Note} (hzy : KeepsStopped z y) (hyx : KeepsStopped y x) : KeepsStopped z x :=
  ⟨Nat.le_trans hyx.1 hzy.1, fun k o hk ho => hzy.2 k o (hyx.2 k o hk ho) ho⟩

/-- A last record that is not stopped may be replaced. -/
theorem keepsStopped_replace {o : Note} (h : o.status ≠ .stopped) (o' : Note) (xs : List Note) :
    KeepsStopped (xs ++ [o']) (xs ++ [o]) := by
  refine ⟨by simp, fun k p hk hp => ?_⟩
  obtain hlt | hge := Nat.lt_or_ge k xs.length
  · rw [List.getElem?_append_left hlt] at hk ⊢
    exact hk
  · rw [List.getElem?_append_right hge] at hk
    obtain rfl := List.mem_singleton.mp (List.mem_of_getElem? hk)
    exact absurd hp h

theorem FrameStep.keepsStopped {s : State} {v : Voice} {ns ns' : List Note} (h : FrameStep s v ns ns') :
    KeepsStopped ns' ns := by
  cases h with
  | same => exact keepsStopped_refl ns
  | goOn h xs p => exact keepsStopped_replace (by simp [h]) _ xs
  | release h xs => exact keepsStopped_replace (by simp [h]) _ xs
  | restart h xs p => exact keepsStopped_trans (keepsStopped_append _ _) (keepsStopped_replace (by simp [h]) _ xs)
  | start h p => exact keepsStopped_append ns _

/-- Settles O56: a frame and a flush change the open note at most, and append at most. -/
theorem stoppedRecordsNeverChange : Obligations.StoppedRecordsNeverChange := by
  intro s v
  refine ⟨?frame, ?flush⟩
  case frame =>
    rw [(frameEndHandlesVoicesApart s).1 v]
    exact (frameStep_finishVoice s v).keepsStopped
  case flush =>
    rw [notesOf_flush]
    generalize notesOf s v = ns
    obtain ⟨xs, o, rfl, h⟩ | h := exists_open_or_closed ns
    · have ho : o.status ≠ .stopped := by obtain h | ⟨rf, h⟩ := h <;> simp [h]
      rw [stopOpen_of_open ho]
      exact keepsStopped_replace ho _ xs
    · rw [stopOpen_of_closed h]
      exact keepsStopped_refl ns

end Sys2Proof.Proofs

/-! ## The reconstructor's invariant (51_note_reconstructor.md section 5) -/

namespace Sys2Proof.Proofs

open Sys2Proof.Machine Sys2Proof.Claims

/-! ### Records -/

theorem noteInv_mono {f g : Nat} {o : Note} (h : NoteInv f o) (hfg : f ≤ g) : NoteInv g o where
  started := Nat.lt_of_lt_of_le h.started hfg
  attack := h.attack
  decay := h.decay
  sustain := h.sustain
  release := h.release
  bendFrames b hb := (h.bendFrames b hb).imp_right (Nat.lt_of_lt_of_le · hfg)
  bendOrder := h.bendOrder
  bendPitches := h.bendPitches
  pitchNow := h.pitchNow
  releasing rf hrf := (h.releasing rf hrf).imp_right (Nat.lt_of_lt_of_le · hfg)

/-- The waveform, durations and status of a record replaced: the rest of the invariant is about what is kept. -/
theorem noteInv_replace {f : Nat} {o : Note} (h : NoteInv f o) {w : Waveform} {a d u r : ℚ} {st : NoteStatus}
    (ha : 0 ≤ a) (hd : 0 ≤ d) (hu : 0 ≤ u) (hr : 0 ≤ r) (hst : ∀ rf, st = .released rf → o.startFrame < rf ∧ rf < f) :
    NoteInv f { o with waveform := w, attack := a, decay := d, sustainLen := u, release := r, status := st } :=
  ⟨h.started, ha, hd, hu, hr, h.bendFrames, h.bendOrder, h.bendPitches, h.pitchNow, hst⟩

theorem releaseNote_lengths_nonneg {f : Nat} {o : Note} (h : NoteInv f o) :
    0 ≤ (releaseNote f o).attack ∧ 0 ≤ (releaseNote f o).decay ∧ 0 ≤ (releaseNote f o).sustainLen := by
  obtain ⟨-, -, -, -, ha, hd, hu, -⟩ := releaseClipsTheEnvelope f o h.started.le h.attack h.decay
  exact ⟨ha, hd, hu⟩

theorem releaseNote_keeps (f : Nat) (o : Note) : releaseNote f o =
    { o with
      attack := (releaseNote f o).attack, decay := (releaseNote f o).decay, sustainLen := (releaseNote f o).sustainLen,
      status := .released f } := by
  rw [releaseNote, clipEnvelope_keeps]

theorem noteInv_releaseNote {f : Nat} {o : Note} (h : NoteInv f o) : NoteInv (f + 1) (releaseNote f o) := by
  obtain ⟨ha, hd, hu⟩ := releaseNote_lengths_nonneg h
  rw [releaseNote_keeps]
  refine noteInv_replace (noteInv_mono h (Nat.le_succ f)) ha hd hu h.release fun rf hrf => ?_
  obtain rfl := NoteStatus.released.inj hrf
  exact ⟨h.started, Nat.lt_succ_self f⟩

theorem noteInv_stopNote {f : Nat} {o : Note} (h : NoteInv f o) : NoteInv f (stopNote f o) := by
  cases hs : o.status with
  | released rf =>
    rw [stopNote_of_released hs, clipRelease_eq]
    have he := elapsed_nonneg (h.releasing rf hs).2.le
    exact noteInv_replace h h.attack h.decay h.sustain (le_min h.release he) (by simp)
  | sounding =>
    obtain ⟨ha, hd, hu⟩ := releaseNote_lengths_nonneg h
    rw [stopNote_of_sounding hs, releaseNote_keeps]
    exact noteInv_replace h ha hd hu le_rfl (by simp)
  | stopped =>
    rw [(stopClipsTheReleaseLength f o).2.2 hs]
    exact h

theorem attackTime_nonneg (n : Nibble) : 0 ≤ attackTime n := div_nonneg (Nat.cast_nonneg _) (by norm_num)

theorem decayReleaseTime_nonneg (n : Nibble) : 0 ≤ decayReleaseTime n := div_nonneg (Nat.cast_nonneg _) (by norm_num)

theorem getLast?_pitches (o : Note) : (o.pitch :: o.bends.map Prod.snd).getLast? = some (lastPitch o) :=
  List.getLast?_cons

/-- A changed pitch is a new last bend, at the frame's number (51_note_reconstructor.md R245). -/
theorem noteInv_bend {f : Nat} {o : Note} (h : NoteInv f o) {p : Int} (hp : p ≠ o.curPitch) :
    NoteInv (f + 1) { o with bends := o.bends ++ [(f, p)], curPitch := p } where
  started := Nat.lt_succ_of_lt h.started
  attack := h.attack
  decay := h.decay
  sustain := h.sustain
  release := h.release
  bendFrames b hb := by
    obtain hb | hb := List.mem_append.mp hb
    · exact (h.bendFrames b hb).imp_right Nat.lt_succ_of_lt
    · obtain rfl := List.mem_singleton.mp hb
      exact ⟨h.started, Nat.lt_succ_self f⟩
  bendOrder := by
    refine List.pairwise_append.mpr ⟨h.bendOrder, List.pairwise_singleton _ _, fun b hb c hc => ?_⟩
    obtain rfl := List.mem_singleton.mp hc
    exact (h.bendFrames b hb).2
  bendPitches := by
    rw [List.map_append, ← List.cons_append]
    refine List.isChain_append.mpr ⟨h.bendPitches, List.isChain_singleton p, fun q hq r hr => ?_⟩
    obtain rfl : lastPitch o = q := by simpa [getLast?_pitches] using hq
    obtain rfl : p = r := by simpa using hr
    exact h.pitchNow ▸ hp.symm
  pitchNow := by simp [lastPitch]
  releasing rf hrf := (h.releasing rf hrf).imp_right Nat.lt_succ_of_lt

/-- The fields that a refresh takes from the latches (51_note_reconstructor.md R244). -/
def latched (s : State) (v : Voice) (o : Note) : Note :=
  { o with
    waveform := waveformOf (waveBits s v)
    attack := attackTime (attackNib s v)
    decay := decayReleaseTime (decayNib s v)
    release := decayReleaseTime (releaseNib s v) }

theorem noteInv_latched {f : Nat} {o : Note} (h : NoteInv f o) (s : State) (v : Voice) : NoteInv f (latched s v o) :=
  noteInv_replace h (attackTime_nonneg _) (decayReleaseTime_nonneg _) h.sustain (decayReleaseTime_nonneg _) h.releasing

theorem refreshNote_of_same_pitch (s : State) (v : Voice) (o : Note) :
    refreshNote s v o.curPitch o = latched s v o := by simp [refreshNote, latched]

theorem refreshNote_of_changed_pitch {o : Note} {p : Int} (hp : p ≠ o.curPitch) (s : State) (v : Voice) :
    refreshNote s v p o = latched s v { o with bends := o.bends ++ [(s.frame, p)], curPitch := p } := by
  simp [refreshNote, latched, hp]

theorem noteInv_refreshNote {s : State} {o : Note} (h : NoteInv s.frame o) (v : Voice) (p : Int) :
    NoteInv (s.frame + 1) (refreshNote s v p o) := by
  by_cases hp : p = o.curPitch
  · rw [hp, refreshNote_of_same_pitch]
    exact noteInv_latched (noteInv_mono h (Nat.le_succ _)) s v
  · rw [refreshNote_of_changed_pitch hp]
    exact noteInv_latched (noteInv_bend h hp) s v

theorem noteInv_startedNote (s : State) (v : Voice) (p : Int) : NoteInv (s.frame + 1) (startedNote s v p) := by
  have hnew : NoteInv (s.frame + 1) (newNote s.frame p) :=
    ⟨Nat.lt_succ_self _, le_rfl, le_rfl, le_rfl, le_rfl, by simp [newNote], List.Pairwise.nil, List.isChain_singleton p,
      rfl, by simp [newNote]⟩
  have hlatched := noteInv_latched hnew s v
  rwa [← refreshNote_of_same_pitch] at hlatched

/-! ### Lists -/

theorem notesInv_mono {f g : Nat} {ns : List Note} (h : NotesInv f ns) (hfg : f ≤ g) : NotesInv g ns :=
  ⟨h.closed, h.order, fun o ho => noteInv_mono (h.records o ho) hfg⟩

theorem notesInv_concat {f : Nat} {xs : List Note} {o : Note} :
    NotesInv f (xs ++ [o]) ↔ (∀ x ∈ xs, x.status = .stopped) ∧
      xs.Pairwise (fun o p => o.startFrame < p.startFrame) ∧ (∀ x ∈ xs, x.startFrame < o.startFrame) ∧
      (∀ x ∈ xs, NoteInv f x) ∧ NoteInv f o := by
  constructor
  · rintro ⟨hc, ho, hr⟩
    rw [List.dropLast_concat] at hc
    obtain ⟨hxs, -, hlt⟩ := List.pairwise_append.mp ho
    exact ⟨hc, hxs, fun x hx => hlt x hx o (by simp), fun x hx => hr x (by simp [hx]), hr o (by simp)⟩
  · rintro ⟨hc, hxs, hlt, hr, ho⟩
    refine ⟨by rwa [List.dropLast_concat], List.pairwise_append.mpr ⟨hxs, List.pairwise_singleton _ _, ?_⟩, ?_⟩
    · rintro x hx p hp
      obtain rfl := List.mem_singleton.mp hp
      exact hlt x hx
    · intro x hx
      obtain hx | hx := List.mem_append.mp hx
      · exact hr x hx
      · obtain rfl := List.mem_singleton.mp hx
        exact ho

/-- The last record replaced by one with the same start. -/
theorem notesInv_replace {f g : Nat} {xs : List Note} {o o' : Note} (h : NotesInv f (xs ++ [o])) (hfg : f ≤ g)
    (ho' : NoteInv g o') (hstart : o'.startFrame = o.startFrame) : NotesInv g (xs ++ [o']) := by
  obtain ⟨hc, hxs, hlt, hr, -⟩ := notesInv_concat.mp h
  exact notesInv_concat.mpr ⟨hc, hxs, hstart ▸ hlt, fun x hx => noteInv_mono (hr x hx) hfg, ho'⟩

/-- Every record of a list whose last one is stopped is stopped. -/
theorem notesInv_all_stopped {f : Nat} {ns : List Note} (h : NotesInv f ns)
    (hlast : ∀ o, ns.getLast? = some o → o.status = .stopped) : ∀ o ∈ ns, o.status = .stopped := by
  intro o ho
  obtain rfl | ⟨xs, p, rfl⟩ := ns.eq_nil_or_concat'
  · cases ho
  · obtain ⟨hxs, -⟩ := notesInv_concat.mp h
    obtain ho | ho := List.mem_append.mp ho
    · exact hxs o ho
    · obtain rfl := List.mem_singleton.mp ho
      exact hlast o (by simp)

/-- A record started in this frame appended to a list of stopped ones. -/
theorem notesInv_start {f : Nat} {ns : List Note} {o : Note} (h : NotesInv f ns)
    (hlast : ∀ o, ns.getLast? = some o → o.status = .stopped) (hstart : o.startFrame = f) (ho : NoteInv (f + 1) o) :
    NotesInv (f + 1) (ns ++ [o]) := by
  have hrecords := (notesInv_mono h (Nat.le_succ f)).records
  exact notesInv_concat.mpr ⟨notesInv_all_stopped h hlast, h.order,
    fun x hx => hstart ▸ (h.records x hx).started, hrecords, ho⟩

theorem FrameStep.notesInv {s : State} {v : Voice} {ns ns' : List Note} (hstep : FrameStep s v ns ns')
    (h : NotesInv s.frame ns) : NotesInv (s.frame + 1) ns' := by
  have hle := Nat.le_succ s.frame
  cases hstep with
  | same => exact notesInv_mono h hle
  | goOn hst xs p =>
    obtain ⟨-, -, -, -, ho⟩ := notesInv_concat.mp h
    exact notesInv_replace h hle (noteInv_refreshNote ho v p) rfl
  | release hst xs =>
    obtain ⟨-, -, -, -, ho⟩ := notesInv_concat.mp h
    exact notesInv_replace h hle (noteInv_releaseNote ho) (by simp)
  | restart hst xs p =>
    obtain ⟨-, -, -, -, ho⟩ := notesInv_concat.mp h
    have hstop := notesInv_replace h le_rfl (noteInv_stopNote ho) (by simp)
    exact notesInv_start hstop (by simp) rfl (noteInv_startedNote s v p)
  | start hlast p => exact notesInv_start h hlast rfl (noteInv_startedNote s v p)

theorem notesInv_stopOpen {f : Nat} {ns : List Note} (h : NotesInv f ns) : NotesInv f (stopOpen f ns) := by
  obtain ⟨xs, o, rfl, hst⟩ | hlast := exists_open_or_closed ns
  · have hopen : o.status ≠ .stopped := by obtain h | ⟨rf, h⟩ := hst <;> simp [h]
    obtain ⟨-, -, -, -, ho⟩ := notesInv_concat.mp h
    rw [stopOpen_of_open hopen]
    exact notesInv_replace h le_rfl (noteInv_stopNote ho) (by simp)
  · rwa [stopOpen_of_closed hlast]

/-- After a flush every record is stopped (51_note_reconstructor.md R252). -/
theorem stopOpen_all_stopped {f : Nat} {ns : List Note} (h : NotesInv f ns) :
    ∀ o ∈ stopOpen f ns, o.status = .stopped := by
  refine notesInv_all_stopped (notesInv_stopOpen h) ?_
  obtain ⟨xs, o, rfl, hst⟩ | hlast := exists_open_or_closed ns
  · have hopen : o.status ≠ .stopped := by obtain h | ⟨rf, h⟩ := hst <;> simp [h]
    simp [stopOpen_of_open hopen]
  · rwa [stopOpen_of_closed hlast]

theorem finishFrame_frame (s : State) : (finishFrame s).frame = s.frame := by
  rw [(frameEndHandlesVoicesApart s).2.2]

theorem reconstructorInv_frame {s : State} (h : ReconstructorInv s) :
    ReconstructorInv (advanceFrame (finishFrame s)) := by
  intro v
  have hstep := (frameStep_finishVoice s v).notesInv (h v)
  rw [← (frameEndHandlesVoicesApart s).1 v] at hstep
  change NotesInv ((finishFrame s).frame + 1) (notesOf (finishFrame s) v)
  rwa [finishFrame_frame]

theorem reconstructorInv_flush {s : State} (h : ReconstructorInv s) : ReconstructorInv (flush s) := by
  intro v
  rw [notesOf_flush]
  exact notesInv_stopOpen (h v)

/-- Whatever keeps the note lists and the frame clock keeps the invariant. -/
theorem reconstructorInv_congr {s t : State} (h : ReconstructorInv s) (hnotes : t.notes = s.notes)
    (hframe : t.frame = s.frame) : ReconstructorInv t := by
  intro v
  rw [hframe, notesOf, hnotes]
  exact h v

theorem ticks_keep_notes {n : Nat} {s t : State} (h : ticks n s = .next t) :
    t.notes = s.notes ∧ t.frame = s.frame := by
  induction n generalizing s with
  | zero =>
    obtain rfl := Host.Outcome.next.inj h
    exact ⟨rfl, rfl⟩
  | succ n ih =>
    obtain ⟨u, hu⟩ := tick_total .fail s
    obtain ⟨-, hnotes, hframe, -⟩ := tick_keeps_host hu
    rw [ticks_succ hu] at h
    obtain ⟨hn, hf⟩ := ih h
    exact ⟨hn.trans hnotes, hf.trans hframe⟩

/-- Settles O55. -/
theorem framesKeepTheReconstructorInvariant : Obligations.FramesKeepTheReconstructorInvariant := by
  refine fun s h => ⟨reconstructorInv_frame h, reconstructorInv_flush h, fun n t ht => ?_⟩
  obtain ⟨hnotes, hframe⟩ := ticks_keep_notes ht
  exact reconstructorInv_congr h hnotes hframe

end Sys2Proof.Proofs

/-! ## Reset and the host's operations (10_state.md section 6, 20_memory.md section 1, 70_reset_and_hazards.md) -/

namespace Sys2Proof.Proofs

open Sys2Proof.Machine Sys2Proof.Claims

/-! ### Reset -/

theorem memRead_reset (addr : Word) : memRead State.reset addr = 0 :=
  memRead_of_not_mem fun _ h => nomatch h

theorem notesOf_reset (v : Voice) : notesOf State.reset v = [] := Vector.getElem_replicate _

theorem getFlag_reset (k : Flag) : getFlag State.reset.f k = decide (k = .U) := by cases k <;> rfl

/-- Settles O1. -/
theorem resetLeavesTheTableValues : Obligations.ResetLeavesTheTableValues :=
  ⟨⟨rfl, rfl, rfl, rfl, rfl⟩, getFlag_reset, rfl, rfl, memRead_reset, fun _ h => Vector.getElem_replicate h,
    notesOf_reset, rfl, rfl, rfl, fun _ => rfl⟩

theorem notesInv_nil (f : Nat) : NotesInv f [] := ⟨by simp, List.Pairwise.nil, by simp⟩

theorem coreInv_reset : CoreInv State.reset := ⟨reset_memory_wf, by decide, by decide, by decide⟩

theorem reconstructorInv_reset : ReconstructorInv State.reset := fun v => by
  rw [notesOf_reset]
  exact notesInv_nil _

/-- Settles O2. -/
theorem resetMeetsTheInvariants : Obligations.ResetMeetsTheInvariants := ⟨coreInv_reset, reconstructorInv_reset⟩

/-! ### The copy loop of a load -/

theorem not_inRam_of_regionAt_eq_none {s : State} {addr : Word} (h : regionAt s addr = none) :
    inRam s addr = false := by simp [inRam, h]

/-- Memory at an address that is not RAM is out of a write's reach. -/
theorem read_memWrite_of_not_inRam {s : State} {addr : Word} (h : inRam s addr = false) (other : Word) (v : Byte) :
    Memory.read (memWrite other v s).mem addr.toNat = Memory.read s.mem addr.toNat := by
  obtain ⟨r, hr, hk, e⟩ | ⟨r, -, -, e⟩ | ⟨-, e⟩ := memWrite_cases other v s
  · have hne : addr ≠ other := fun heq => by simp [inRam, heq, hr, hk] at h
    rw [e]
    exact Memory.read_write_other v fun heq => hne (BitVec.eq_of_toNat_eq heq)
  · rw [e, poke_keeps]
  · rw [e]

theorem pokes_memWrite (s : State) (other addr : Word) (v : Byte) (j : Nat) :
    Pokes (memWrite other v s) addr j ↔ Pokes s addr j := by simp [Pokes]

/-- A latch after a write through the address space. -/
theorem memWrite_latch_of_pokes {s : State} {addr : Word} {j : Nat} (hj : j < 25) (h : Pokes s addr j) (v : Byte) :
    (memWrite addr v s).reg[j] = v := by
  obtain ⟨r, hr, hk, hi⟩ := h
  rw [((served_of_regionAt v hr).2 hk).2, poke_getElem hj, if_pos hi.symm]

theorem memWrite_latch_of_not_pokes {s : State} {addr : Word} {j : Nat} (hj : j < 25) (h : ¬ Pokes s addr j)
    (v : Byte) : (memWrite addr v s).reg[j] = s.reg[j] := by
  obtain ⟨r, -, -, e⟩ | ⟨r, hr, hk, e⟩ | ⟨-, e⟩ := memWrite_cases addr v s
  · simp only [e]
  · simp only [e]
    rw [poke_getElem hj, if_neg fun hi => h ⟨r, hr, hk, hi.symm⟩]
  · simp only [e]

theorem memRead_copyBytes {s : State} (hm : Memory.wf s.mem) (bytes : List Byte) {base : Nat}
    (hfit : base + bytes.length ≤ 0x10000) (addr : Word) : memRead (copyBytes bytes base s) addr =
      if base ≤ addr.toNat ∧ addr.toNat < base + bytes.length ∧ inRam s addr = true then
        bytes.getD (addr.toNat - base) 0
      else memRead s addr := by
  induction bytes generalizing base s with
  | nil => rw [if_neg (by simp; omega), copyBytes]
  | cons b bs ih =>
    rw [List.length_cons] at hfit
    rw [copyBytes, ih (memWrite_keeps_wf hm) (by omega), inRam_memWrite, List.length_cons]
    have hbase : (BitVec.ofNat 16 base).toNat = base := by simp; omega
    by_cases hat : addr.toNat = base
    · obtain rfl : addr = BitVec.ofNat 16 base := BitVec.eq_of_toNat_eq (hat.trans hbase.symm)
      rw [if_neg (by rw [hbase]; omega), hbase, Nat.sub_self]
      cases hram : inRam s (BitVec.ofNat 16 base) with
      | true => rw [memRead_memWrite_same hm hram, if_pos (by simp), List.getD_cons_zero]
      | false =>
        rw [memRead_of_not_inRam hram, memRead_of_not_inRam (by rw [inRam_memWrite, hram]), if_neg (by simp)]
    · have hne : addr ≠ BitVec.ofNat 16 base := fun heq => hat (by rw [heq, hbase])
      rw [memRead_memWrite_other hne]
      obtain hlt | hgt := Nat.lt_or_gt_of_ne hat
      · rw [if_neg (by omega), if_neg (by omega)]
      · have hsucc : addr.toNat - base = addr.toNat - (base + 1) + 1 := by omega
        rw [hsucc, List.getD_cons_succ]
        exact if_congr (and_congr (by omega) (and_congr_left' (by omega))) rfl rfl

theorem read_copyBytes_of_not_inRam {s : State} {addr : Word} (h : inRam s addr = false) (bytes : List Byte)
    (base : Nat) : Memory.read (copyBytes bytes base s).mem addr.toNat = Memory.read s.mem addr.toNat := by
  induction bytes generalizing base s with
  | nil => rfl
  | cons b bs ih => rw [copyBytes, ih (by rw [inRam_memWrite, h]), read_memWrite_of_not_inRam h]

theorem copyBytes_of_unmapped {s : State} (bytes : List Byte) {base : Nat}
    (h : ∀ k, k < bytes.length → regionAt s (BitVec.ofNat 16 (base + k)) = none) : copyBytes bytes base s = s := by
  induction bytes generalizing base with
  | nil => rfl
  | cons b bs ih =>
    have h0 : regionAt s (BitVec.ofNat 16 base) = none := h 0 (Nat.succ_pos _)
    rw [copyBytes, (unmapped_of_regionAt b h0).2]
    exact ih fun k hk => Nat.add_right_comm base 1 k ▸ h (k + 1) (Nat.succ_lt_succ hk)

/-- A latch that no byte is poked into keeps its byte. -/
theorem copyBytes_latch_of_not_pokes {s : State} {j : Nat} (hj : j < 25) (bytes : List Byte) {base : Nat}
    (h : ∀ k, k < bytes.length → ¬ Pokes s (BitVec.ofNat 16 (base + k)) j) :
    (copyBytes bytes base s).reg[j] = s.reg[j] := by
  induction bytes generalizing base s with
  | nil => rfl
  | cons b bs ih =>
    refine (ih fun k hk => ?_).trans (memWrite_latch_of_not_pokes hj (h 0 (Nat.succ_pos _)) b)
    rw [pokes_memWrite, Nat.add_right_comm base 1 k]
    exact h (k + 1) (Nat.succ_lt_succ hk)

/-- Of the bytes poked into a latch the last one stands. -/
theorem copyBytes_latch_of_pokes {s : State} {j : Nat} (hj : j < 25) (bytes : List Byte) {base k : Nat}
    (hk : k < bytes.length) (hpoke : Pokes s (BitVec.ofNat 16 (base + k)) j)
    (hlast : ∀ n, k < n → n < bytes.length → ¬ Pokes s (BitVec.ofNat 16 (base + n)) j) :
    (copyBytes bytes base s).reg[j] = bytes.getD k 0 := by
  induction bytes generalizing base k s with
  | nil => cases hk
  | cons b bs ih =>
    cases k with
    | zero =>
      refine (copyBytes_latch_of_not_pokes hj bs fun n hn => ?_).trans (memWrite_latch_of_pokes hj hpoke b)
      rw [pokes_memWrite, Nat.add_right_comm base 1 n]
      exact hlast (n + 1) (Nat.succ_pos n) (Nat.succ_lt_succ hn)
    | succ k =>
      refine ih (Nat.lt_of_succ_lt_succ hk) ?_ fun n hkn hn => ?_
      · rw [pokes_memWrite, Nat.add_right_comm base 1 k]
        exact hpoke
      · rw [pokes_memWrite, Nat.add_right_comm base 1 n]
        exact hlast (n + 1) (Nat.succ_lt_succ hkn) (Nat.succ_lt_succ hn)

/-! ### Load and attach -/

theorem imageFits_iff (length base : Nat) : imageFits length base = true ↔ base + length ≤ 0x10000 :=
  decide_eq_true_iff

theorem load_of_overflow {base : Nat} {bytes : List Byte} (h : 0x10000 < base + bytes.length) (loadBase : Nat)
    (s : State) : load loadBase bytes base s = raiseFault .loadOverflow 0 0 s :=
  if_pos (by rw [imageFits_iff]; omega)

theorem load_of_wrong_address {loadBase base : Nat} {bytes : List Byte} (hfit : base + bytes.length ≤ 0x10000)
    (h : base ≠ loadBase) (s : State) : load loadBase bytes base s = raiseFault .unsupportedLoadAddress 0 0 s :=
  (if_neg (by rw [imageFits_iff]; omega)).trans (if_pos h)

theorem load_of_fits {base : Nat} {bytes : List Byte} (hfit : base + bytes.length ≤ 0x10000) (s : State) :
    load base bytes base s = copyBytes bytes base s := by
  rw [load, if_neg (by rw [imageFits_iff]; omega), if_neg (by simp)]

/-- A load faults or copies the image. -/
theorem load_cases (loadBase : Nat) (bytes : List Byte) (base : Nat) (s : State) :
    (∃ kind, load loadBase bytes base s = raiseFault kind 0 0 s) ∨
    load loadBase bytes base s = copyBytes bytes base s := by
  by_cases hfit : base + bytes.length ≤ 0x10000
  · by_cases hbase : base = loadBase
    · subst hbase
      exact .inr (load_of_fits hfit s)
    · exact .inl ⟨_, load_of_wrong_address hfit hbase s⟩
  · exact .inl ⟨_, load_of_overflow (by omega) loadBase s⟩

theorem attach_of_wf {r : Region} (h : r.wf = true) (s : State) :
    attach r s = .next { s with regions := s.regions ++ [r] } := if_pos h

theorem attach_eq_next {r : Region} {s t : State} (h : attach r s = .next t) :
    r.wf = true ∧ t = { s with regions := s.regions ++ [r] } := by
  cases hr : r.wf with
  | true => exact ⟨rfl, (Host.Outcome.next.inj ((attach_of_wf hr s).symm.trans h)).symm⟩
  | false => simp [attach, hr] at h

/-- Settles O57. -/
theorem loadChecksThenCopies : Obligations.LoadChecksThenCopies := by
  intro s loadBase base bytes r
  refine ⟨fun hord hspace => attach_of_wf ?_ s, fun h => load_of_overflow h loadBase s,
    fun hfit h => load_of_wrong_address hfit h s, ?copies⟩
  · simp [Region.wf, Region.ordered, Region.inSpace, hord, hspace]
  case copies =>
    rintro hfit rfl
    simp only [load_of_fits hfit]
    exact ⟨fun hm => memRead_copyBytes hm bytes hfit, fun addr h => read_copyBytes_of_not_inRam h bytes base,
      fun j hj => ⟨copyBytes_latch_of_not_pokes hj bytes, fun k => copyBytes_latch_of_pokes hj bytes⟩,
      copyBytes_of_unmapped bytes, copyBytes_keeps bytes base s⟩

/-! ### The core invariant -/

/-- What a state needs to meet the core invariant where another does. -/
theorem coreInv_congr {s t : State} (h : CoreInv s) (hm : Memory.wf t.mem)
    (ht : t.remaining = s.remaining ∧ flag .U t = flag .U s ∧ t.regions = s.regions) : CoreInv t := by
  obtain ⟨hwait, hflag, hregions⟩ := ht
  exact ⟨hm, hwait ▸ h.waiting, hflag.trans h.unusedFlag, hregions ▸ h.regions⟩

theorem load_keeps_coreInv {s : State} (h : CoreInv s) (loadBase : Nat) (bytes : List Byte) (base : Nat) :
    CoreInv (load loadBase bytes base s) := by
  obtain ⟨kind, e⟩ | e := load_cases loadBase bytes base s
  · rw [e]
    exact coreInv_congr h h.memory ⟨rfl, rfl, rfl⟩
  · rw [e]
    refine coreInv_congr h (copyBytes_keeps_wf h.memory) ?_
    rw [copyBytes_keeps]
    exact ⟨rfl, rfl, rfl⟩

/-- A call changes the registers, the stack and B at most. -/
theorem call_keeps (addr : Word) (a : Option Byte) (s : State) : call addr a s = { s with
    a := (call addr a s).a, sp := (call addr a s).sp, pc := addr, f := putFlag s.f .B false
    mem := (call addr a s).mem, reg := (call addr a s).reg } := by
  rw [call_eq, storeWord, memWrite_keeps, memWrite_keeps (stackAddr s.sp)]

theorem call_keeps_wf {addr : Word} {a : Option Byte} {s : State} (h : Memory.wf s.mem) :
    Memory.wf (call addr a s).mem := by
  rw [call_eq]
  exact memWrite_keeps_wf (memWrite_keeps_wf h)

theorem call_keeps_coreInv {s : State} (h : CoreInv s) (addr : Word) (a : Option Byte) : CoreInv (call addr a s) := by
  refine coreInv_congr h (call_keeps_wf h.memory) ?_
  rw [call_keeps]
  exact ⟨rfl, by simp [flag], rfl⟩

theorem attach_keeps_coreInv {s t : State} {r : Region} (h : CoreInv s) (ht : attach r s = .next t) : CoreInv t := by
  obtain ⟨hr, rfl⟩ := attach_eq_next ht
  refine ⟨h.memory, h.waiting, h.unusedFlag, fun q hq => ?_⟩
  obtain hq | hq := List.mem_append.mp hq
  · exact h.regions q hq
  · obtain rfl := List.mem_singleton.mp hq
    exact hr

theorem finishFrame_keeps_coreInv {s : State} (h : CoreInv s) : CoreInv (finishFrame s) := by
  rw [(frameEndHandlesVoicesApart s).2.2]
  exact coreInv_congr h h.memory ⟨rfl, rfl, rfl⟩

theorem ticks_keep_coreInv {n : Nat} {s t : State} (h : CoreInv s) (ht : ticks n s = .next t) : CoreInv t := by
  induction n generalizing s with
  | zero => exact Host.Outcome.next.inj ht ▸ h
  | succ n ih =>
    obtain ⟨u, hu⟩ := tick_total .fail s
    rw [ticks_succ hu] at ht
    exact ih (tick_keeps_coreInv h hu) ht

/-- Settles O4. -/
theorem hostOperationsKeepTheCoreInvariant : Obligations.HostOperationsKeepTheCoreInvariant := fun _ h =>
  ⟨load_keeps_coreInv h, call_keeps_coreInv h, fun _ _ => attach_keeps_coreInv h, finishFrame_keeps_coreInv h,
    coreInv_congr h h.memory ⟨rfl, rfl, rfl⟩, coreInv_congr h h.memory ⟨rfl, rfl, rfl⟩, fun _ _ => ticks_keep_coreInv h⟩

end Sys2Proof.Proofs

/-! ## The driver loop (70_reset_and_hazards.md section 2) -/

namespace Sys2Proof.Proofs

open Sys2Proof.Machine Sys2Proof.Claims

/-! ### One frame -/

section
variable {cycles : Nat} {play : Word} {cancelAfter : Option Nat} {k : Nat} {s t : State}

theorem frames_of_faulted (h : Faulted s) (n : Nat) :
    frames cycles play cancelAfter (n + 1) k s = .next (.faulted s) := by
  rw [frames, if_pos (Option.isSome_iff_ne_none.mpr h)]

theorem frames_of_fault_in_ticks (hs : s.faultState = none) (ht : ticks cycles (playCall play k s) = .next t)
    (h : Faulted t) (n : Nat) : frames cycles play cancelAfter (n + 1) k s = .next (.faulted t) := by
  rw [frames, ht, hs]
  exact if_pos (Option.isSome_iff_ne_none.mpr h)

theorem frames_of_ticks (hs : s.faultState = none) (ht : ticks cycles (playCall play k s) = .next t)
    (h : t.faultState = none) (n : Nat) : frames cycles play cancelAfter (n + 1) k s =
      if cancelAfter = some k then .next (.cancelled (flush (advanceFrame (finishFrame t))))
      else frames cycles play cancelAfter n (k + 1) (advanceFrame (finishFrame t)) := by
  rw [frames, ht, hs]
  exact if_neg fun hsome => Option.isSome_iff_ne_none.mp hsome h

end

/-- Settles O59. -/
theorem driverAlternatesTicksAndFrameEnds : Obligations.DriverAlternatesTicksAndFrameEnds := fun _ _ _ n _ _ _ =>
  ⟨fun h => frames_of_faulted h n,
    fun hs ht => ⟨fun h => frames_of_fault_in_ticks hs ht h n,
      fun h => ⟨fun hc => (frames_of_ticks hs ht h n).trans (if_pos hc),
        fun hc => (frames_of_ticks hs ht h n).trans (if_neg hc)⟩⟩, rfl⟩

/-! ### The end of a run -/

theorem ticks_total (n : Nat) (s : State) : ∃ t, ticks n s = .next t := by
  induction n generalizing s with
  | zero => exact ⟨s, rfl⟩
  | succ n ih =>
    obtain ⟨u, hu⟩ := tick_total .fail s
    obtain ⟨t, ht⟩ := ih u
    exact ⟨t, (ticks_succ hu n).trans ht⟩

theorem playCall_keeps (play : Word) (k : Nat) (s : State) :
    (playCall play k s).notes = s.notes ∧ (playCall play k s).frame = s.frame := by
  unfold playCall
  split
  · rw [call_keeps]
    exact ⟨rfl, rfl⟩
  · exact ⟨rfl, rfl⟩

/-- What a run leaves of the host's state when it was not faulted: no fault, and every record stopped. -/
def Settled (s : State) : Prop := s.faultState = none ∧
  ∀ v, NotesInv s.frame (notesOf s v) ∧ ∀ o ∈ notesOf s v, o.status = .stopped

theorem settled_flush {s : State} (hs : s.faultState = none) (h : ReconstructorInv s) : Settled (flush s) := by
  refine ⟨hs, fun v => ⟨reconstructorInv_flush h v, ?_⟩⟩
  rw [notesOf_flush]
  exact stopOpen_all_stopped (h v)

/-- What holds of each way the frames of a run before frame `last` can end. -/
def EndsAsStated (cancelAfter : Option Nat) (last : Nat) : RunEnd → Prop
  | .completed s => Settled s ∧ s.frame = last
  | .cancelled s => Settled s ∧ ∃ m, cancelAfter = some m ∧ m < last ∧ s.frame = m + 1
  | .faulted s => Faulted s

theorem frames_end (cycles : Nat) (play : Word) (cancelAfter : Option Nat) (n : Nat) {k : Nat} {s : State}
    (hs : s.faultState = none) (h : ReconstructorInv s) (hk : s.frame = k) :
    ∃ e, frames cycles play cancelAfter n k s = .next e ∧ EndsAsStated cancelAfter (k + n) e := by
  induction n generalizing k s with
  | zero => exact ⟨_, rfl, settled_flush hs h, hk⟩
  | succ n ih =>
    obtain ⟨t, ht⟩ := ticks_total cycles (playCall play k s)
    obtain ⟨hnotes, hframe⟩ := ticks_keep_notes ht
    obtain ⟨hnotes', hframe'⟩ := playCall_keeps play k s
    have hinv : ReconstructorInv t := reconstructorInv_congr h (hnotes.trans hnotes') (hframe.trans hframe')
    by_cases hf : t.faultState = none
    · have hfault : (advanceFrame (finishFrame t)).faultState = none := by
        rw [← hf, (frameEndHandlesVoicesApart t).2.2]
        rfl
      have hclock : (advanceFrame (finishFrame t)).frame = k + 1 := by
        rw [← hk, ← hframe', ← hframe, ← finishFrame_frame t]
        rfl
      rw [frames_of_ticks hs ht hf n]
      by_cases hc : cancelAfter = some k
      · rw [if_pos hc]
        exact ⟨_, rfl, settled_flush hfault (reconstructorInv_frame hinv), k, hc, by omega, hclock⟩
      · rw [if_neg hc, Nat.add_comm n 1, ← Nat.add_assoc]
        exact ih hfault (reconstructorInv_frame hinv) hclock
    · exact ⟨_, frames_of_fault_in_ticks hs ht hf n, hf⟩

/-- What a call after a load that succeeded leaves as reset set it. -/
theorem call_copyBytes_reset (addr : Word) (a : Option Byte) (image : List Byte) (base : Nat) :
    (call addr a (copyBytes image base State.reset)).faultState = none ∧
    (call addr a (copyBytes image base State.reset)).frame = 0 ∧
    (call addr a (copyBytes image base State.reset)).notes = State.reset.notes := by
  rw [call_keeps, copyBytes_keeps]
  exact ⟨rfl, rfl, rfl⟩

theorem run_end (loadBase : Nat) (image : List Byte) (init play : Word) (nFrames : Nat) (cancelAfter : Option Nat) :
    ∃ e, run loadBase image init play nFrames cancelAfter = .next e ∧ EndsAsStated cancelAfter nFrames e := by
  obtain ⟨kind, hload⟩ | hload := load_cases loadBase image loadBase State.reset
  · rw [run, hload]
    exact ⟨_, rfl, Option.some_ne_none _⟩
  · obtain ⟨hfault, hframe, hnotes⟩ := call_copyBytes_reset init (some Config.song) image loadBase
    have hinv := reconstructorInv_congr reconstructorInv_reset hnotes hframe
    have hend := frames_end Config.cyclesPerFrame play cancelAfter nFrames hfault hinv hframe
    have hnone : (copyBytes image loadBase State.reset).faultState = none := by rw [copyBytes_keeps]; rfl
    rw [Nat.zero_add] at hend
    rwa [run, hload, hnone]

theorem outputHolds (s : State) : OutputHolds s (.music (outputNotes s) s.warnings) :=
  ⟨_, rfl, outputNotes_voice s⟩

/-- Settles O60. -/
theorem runsEndWithEveryRecordStopped : Obligations.RunsEndWithEveryRecordStopped := by
  intro loadBase image init play nFrames cancelAfter
  obtain ⟨e, hrun, he⟩ := run_end loadBase image init play nFrames cancelAfter
  cases e with
  | completed s =>
    obtain ⟨hs, hframe⟩ := he
    exact .inl ⟨s, hrun, hs, hframe, outputHolds s⟩
  | cancelled s =>
    obtain ⟨hs, m, hm, hlt, hframe⟩ := he
    exact .inr (.inl ⟨s, m, hrun, hs, hm, hlt, hframe, outputHolds s⟩)
  | faulted s =>
    obtain ⟨r, hr⟩ := Option.ne_none_iff_exists'.mp he
    exact .inr (.inr ⟨s, r, hrun, hr, congrArg Output.fault hr⟩)

end Sys2Proof.Proofs

/-! ## The pitch of a frequency (51_note_reconstructor.md section 3, 92_eei_decisions.md D29) -/

namespace Sys2Proof.Proofs

open Sys2Proof.Machine Sys2Proof.Claims

/-- The logarithm of the floor of a fraction that is at least 1 is the floor of its logarithm. -/
theorem log2_div_eq_intLog {p q : Nat} (hq : 0 < q) (h : q ≤ p) :
    ((p / q).log2 : Int) = Int.log 2 ((p : ℚ) / q) := by
  have hone : (1 : ℚ) ≤ (p : ℚ) / q := (one_le_div (by exact_mod_cast hq)).mpr (by exact_mod_cast h)
  rw [Int.log_of_one_le_right 2 hone, Nat.floor_div_eq_div, Nat.log2_eq_log_two]

/-- The fraction whose logarithm the pitch is read from is the 24th power of the ratio to 440 Hz times 2^792. -/
theorem scaled_ratio (x : ℚ) : (x * 512) ^ 24 / 440 ^ 24 = (x / (440 * 2 ^ 24)) ^ 24 * 2 ^ 792 := by
  calc (x * 512) ^ 24 / 440 ^ 24 = (x * 512 / 440) ^ 24 := (div_pow _ _ _).symm
    _ = (x / (440 * 2 ^ 24) * 2 ^ 33) ^ 24 := by congr 1; ring
    _ = (x / (440 * 2 ^ 24)) ^ 24 * 2 ^ 792 := by rw [mul_pow, ← pow_mul]

theorem zpow_le_iff_scaled (y : ℚ) (m : Int) : (2 : ℚ) ^ m ≤ y ↔ (2 : ℚ) ^ (m + 792) ≤ y * 2 ^ 792 := by
  rw [zpow_add₀ two_ne_zero]
  exact (mul_le_mul_iff_left₀ (by positivity)).symm

theorem pitch_eq_log {clockHz raw : Nat} (hc : 0 < clockHz) (hr : 0 < raw) : pitch clockHz raw =
    some ((Int.log 2 (((raw : ℚ) * clockHz / (440 * 2 ^ 24)) ^ 24 * 2 ^ 792) - 653) / 2) := by
  have hle : 440 ^ 24 ≤ (raw * clockHz * 512) ^ 24 := by
    have hpos : 0 < raw * clockHz := Nat.mul_pos hr hc
    exact Nat.pow_le_pow_left (by omega) 24
  have hlog : (((raw * clockHz * 512) ^ 24 / 440 ^ 24).log2 : Int) = _ := log2_div_eq_intLog (by positivity) hle
  simp only [Nat.cast_pow, Nat.cast_mul, Nat.cast_ofNat, scaled_ratio] at hlog
  rw [pitch, if_neg hr.ne', hlog, sub_add]
  norm_num

/-- Settles O49. -/
theorem pitchIsTheNearestSemitone : Obligations.PitchIsTheNearestSemitone := by
  intro clockHz raw hc
  refine ⟨(pitch_eq_none _ _).mpr rfl, fun hr n => ?_⟩
  have hy : 0 < ((raw : ℚ) * clockHz / (440 * 2 ^ 24)) ^ 24 := by positivity
  rw [pitch_eq_log hc hr, Option.some_inj]
  generalize ((raw : ℚ) * clockHz / (440 * 2 ^ 24)) ^ 24 = y at hy
  have hscaled : 0 < y * 2 ^ 792 := by positivity
  rw [← not_le, zpow_le_iff_scaled y (2 * n - 139), zpow_le_iff_scaled y (2 * n - 137)]
  have hle := fun m : Int => Int.zpow_le_iff_le_log (b := 2) (x := m) one_lt_two hscaled
  simp only [Nat.cast_ofNat] at hle
  rw [hle, hle]
  omega

end Sys2Proof.Proofs
